-- ==== Sys2Proof/Word.lean ====
section
/-!
DEFINITION. The word types of the ALU core (00_scope.md R7, R9).
Bit 0 is the least significant bit, so `v.getLsbD i` is the spec's `v[i]` and `v.toNat` its `uint(v)`.
-/

namespace Sys2Proof

/-- R7, R9: a 16-bit word, the width of every operand, result and internal word. -/
abbrev Word := BitVec 16

/-- R7, R60: a 6-bit control word. -/
abbrev Control := BitVec 6

end Sys2Proof
end

