-- ==== Sys2Proof/Config.lean ====
section
/-!
DEFINITION. What is fixed for the machine: which part it is (00_scope.md R3), and what the spec leaves open, the settling
time `T_pd` and the values of outputs that have not settled.
The opaque constants have no body, so a claim about them holds whatever they are.
-/

namespace Sys2Proof

/-- R3: the "identity facts a model records". None of them has a semantic effect (D17). -/
structure Identity where
  /-- The vendor, or issuer. -/
  vendor : String
  /-- The name of the part. -/
  part : String
  /-- The instruction set architecture; `none` = the core has none. -/
  isa : Option String
  /-- The extensions or options the part has. -/
  extensions : List String
  /-- The label the document goes by, and whose label it is. -/
  version : String
  /-- The revision the document states of itself; `none` = it states none. -/
  documentRevision : Option String
deriving DecidableEq, Repr

/-- R3, D17: the identity of the modelled hardware, "v7 (requester's label), document revision unstated". The core
executes no instruction stream, so it has no ISA; its opcode is the 6-bit control word. "v7" is no hardware revision
(91_not_in_source.md N2). -/
def Config.identity : Identity where
  vendor := "Insper"
  part := "bits-e-proc-proj-ula ALU core"
  isa := none
  extensions := []
  version := "v7 (requester's label)"
  documentRevision := none

/-- The 16-bit output ports whose value is free while they have not settled (R23, R24). -/
inductive WordOutput
  /-- The ALU's `result` (R23). -/
  | result
  /-- The stand-alone Zeroer's `output` (R24). -/
  | zeroerOutput
  /-- The stand-alone Inverter's `output` (R24). -/
  | inverterOutput
  /-- The stand-alone Adder's `sum` (R24). -/
  | adderSum
  /-- The stand-alone Incrementer's `output` (R24). -/
  | incrementerOutput
deriving DecidableEq, Repr

/-- The 1-bit output ports whose value is free while they have not settled (R23, R24). -/
inductive BitOutput
  /-- The ALU's `zero` (R23). -/
  | zero
  /-- The ALU's `negative` (R23). -/
  | negative
  /-- The stand-alone Comparator's `zero` (R24). -/
  | comparatorZero
  /-- The stand-alone Comparator's `negative` (R24). -/
  | comparatorNegative
deriving DecidableEq, Repr

/-- One less than the settling time, so that `Config.tPd` is at least one unit of time.
DESIGN CHOICE (log 3): R8 leaves `T_pd` open; D3 grounds it in "every real combinational circuit has a settling
time". -/
opaque Config.tPdPred : Nat

/-- R8, R244, D3: the OPEN parameter `T_pd`, in the unit of time of one step (log 1, log 3). -/
def Config.tPd : Nat := Config.tPdPred + 1

/-- U1, U2, U3 (R241, R244, R44): what an unsettled 16-bit output shows, "any value, including glitches". The number
is the draw's index, `State.ticks`; each pair of a port and an index is a draw of its own. DESIGN CHOICE (log 5). -/
opaque Config.unsettledWord : WordOutput → Nat → Word

/-- U1, U2, U3 (R241, R244, R44): what an unsettled 1-bit output shows. The flags are drawn apart from `result`,
because inside the window "the flags may disagree with `result`" (R244). DESIGN CHOICE (log 5). -/
opaque Config.unsettledBit : BitOutput → Nat → Bool

end Sys2Proof
end

