-- ==== Sys2Proof/Machine/State.lean ====
section
/-!
DEFINITION. State, faults, refusals and reset. The core has no architectural state (10_state.md R20); what the spec names
is ports (R22 to R24) and how long their levels have been stable (70_reset_and_hazards.md R241, R244). Port values are
held as fields so that a step can show them (log 1, log 2).
-/

namespace Sys2Proof.Machine

/-- No fault exists: "There are no error conditions in the core" (R118, R210), and "no behaviour is treated as `fault` or
`stuck`" (93_implementation_defined.md section 2). Nobody raises one. -/
inductive Fault
deriving DecidableEq, Repr

/-- What the model refuses. -/
inductive Refusal
  /-- Raised by an arm of `exec` whose instruction has no meaning yet; no arm raises it now. Safe. -/
  | notModelled (mnemonic : String)
  /-- Raised by the presenting operations of Machine/Present.lean when the driver puts a level that is neither 0 nor 1 on
  an input wire (R31, R212, D4, U4). No step raises it. Safe: "toward unprovable" (D4). -/
  | nonLogicLevel
  /-- Raised by the presenting operations when the driver presents more or fewer wires than the port has (R31, R212, U5).
  No step raises it. Safe: the hardware has no such input. -/
  | widthViolation
deriving DecidableEq, Repr

/-- R24: the ports of the stand-alone Zeroer, and what is left of its settling window. -/
structure ZeroerPorts where
  /-- Input port `enable`. -/
  enable : Bool
  /-- Input port `input`. -/
  input : Word
  /-- Output port `output`. -/
  output : Word
  /-- Units of time left until the output has settled; 0 = settled. -/
  settling : Nat
deriving DecidableEq, Repr

/-- R24: the ports of the stand-alone Inverter, and what is left of its settling window. -/
structure InverterPorts where
  /-- Input port `enable`. -/
  enable : Bool
  /-- Input port `input`. -/
  input : Word
  /-- Output port `output`. -/
  output : Word
  /-- Units of time left until the output has settled; 0 = settled. -/
  settling : Nat
deriving DecidableEq, Repr

/-- R24, R88: the ports of the stand-alone Adder (no carry in, no carry out), and what is left of its settling window. -/
structure AdderPorts where
  /-- Input port `a`. -/
  a : Word
  /-- Input port `b`. -/
  b : Word
  /-- Output port `sum`. -/
  sum : Word
  /-- Units of time left until the output has settled; 0 = settled. -/
  settling : Nat
deriving DecidableEq, Repr

/-- R24, R95: the ports of the Incrementer, a block that is not on the ALU's datapath, and what is left of its settling
window. -/
structure IncrementerPorts where
  /-- Input port `a`. -/
  a : Word
  /-- Output port `output`. -/
  output : Word
  /-- Units of time left until the output has settled; 0 = settled. -/
  settling : Nat
deriving DecidableEq, Repr

/-- R24: the ports of the stand-alone Comparator, and what is left of its settling window. -/
structure ComparatorPorts where
  /-- Input port `a`. -/
  a : Word
  /-- Output port `zero`. -/
  zero : Bool
  /-- Output port `negative`. -/
  negative : Bool
  /-- Units of time left until the outputs have settled; 0 = settled. -/
  settling : Nat
deriving DecidableEq, Repr

/-- The ports of the ALU (R22, R23) and of the stand-alone sub-blocks (R24). There is nothing else: no register, program
counter, status register or memory (R25 to R30). -/
structure State where
  /-- R22: operand port X. -/
  x : Word
  /-- R22: operand port Y. -/
  y : Word
  /-- R22, R27: the control port, "an input port sampled combinationally, not a register". -/
  control : Control
  /-- R23: output port `result`. -/
  result : Word
  /-- R23, R26: output port `zero`. -/
  zero : Bool
  /-- R23, R26: output port `negative`. -/
  negative : Bool
  /-- R241, R244: units of time for which all 38 input bits must still be stable before the outputs have settled;
  0 = settled. -/
  settling : Nat
  /-- R24, R80: the stand-alone Zeroer. -/
  zeroerBlock : ZeroerPorts
  /-- R24, R83: the stand-alone Inverter. -/
  inverterBlock : InverterPorts
  /-- R24, R87: the stand-alone Adder. -/
  adderBlock : AdderPorts
  /-- R24, R93: the Incrementer. -/
  incrementerBlock : IncrementerPorts
  /-- R24, R97: the stand-alone Comparator. -/
  comparatorBlock : ComparatorPorts
  /-- The model's own field, not the spec's: the index of the next free value (log 5). -/
  ticks : Nat
deriving DecidableEq, Repr

/-- R240, R241: right after power-up. There is no reset input and no reset value; every output is "unspecified (any
value)", here the free value of index 0, and every settling window is open for its whole length. The levels on the input
ports are the driver's; the model takes all of them as 0 (DESIGN CHOICE, log 7). -/
def State.reset : State where
  x := 0#16
  y := 0#16
  control := 0#6
  result := Config.unsettledWord .result 0
  zero := Config.unsettledBit .zero 0
  negative := Config.unsettledBit .negative 0
  settling := Config.tPd
  zeroerBlock :=
    { enable := false, input := 0#16, output := Config.unsettledWord .zeroerOutput 0, settling := Config.tPd }
  inverterBlock :=
    { enable := false, input := 0#16, output := Config.unsettledWord .inverterOutput 0, settling := Config.tPd }
  adderBlock := { a := 0#16, b := 0#16, sum := Config.unsettledWord .adderSum 0, settling := Config.tPd }
  incrementerBlock := { a := 0#16, output := Config.unsettledWord .incrementerOutput 0, settling := Config.tPd }
  comparatorBlock :=
    { a := 0#16, zero := Config.unsettledBit .comparatorZero 0,
      negative := Config.unsettledBit .comparatorNegative 0, settling := Config.tPd }
  ticks := 1

end Sys2Proof.Machine
end

