-- ==== Sys2Proof/Machine/Adder.lean ====
section
/-!
DEFINITION. The Adder and the Incrementer (40_components.md R87 to R95), and the full-adder chain R89 gives as the
Adder's reference structure.
-/

namespace Sys2Proof.Machine

/-- R87: `sum <- (uint(a) + uint(b)) mod 65536`. No carry in, no carry out (R88). -/
def adder (a b : Word) : Word := BitVec.ofNat 16 ((a.toNat + b.toNat) % 65536)

/-- R93, R94: `output <- Add(a, 0x0001)`. -/
def incrementer (a : Word) : Word := adder a 0x0001#16

/-- R89: the carry `c[i]` of the full-adder chain: `c[0] = 0`, `c[i+1]` the majority of `a[i]`, `b[i]`, `c[i]`.
PRESUMED (log 12): R89 marks these equations as general knowledge. An internal net, read by no operation of the model. -/
def carry (a b : Word) : Nat → Bool
  | 0 => false
  | i + 1 =>
    (a.getLsbD i && b.getLsbD i) || (a.getLsbD i && carry a b i) || (b.getLsbD i && carry a b i)

/-- R89: bit i of the chain's sum, `a[i] XOR b[i] XOR c[i]`. PRESUMED (log 12). -/
def rippleBit (a b : Word) (i : Nat) : Bool := (a.getLsbD i ^^ b.getLsbD i) ^^ carry a b i

end Sys2Proof.Machine
end

