-- ==== Sys2Proof/Machine/Flags.lean ====
section
/-!
DEFINITION. The Comparator and with it every flag of the core (40_components.md R97 to R100).
-/

namespace Sys2Proof.Machine

/-- 00_scope.md glossary, "Flags": the pair (zero, negative). -/
structure Flags where
  /-- True iff the word is 0x0000. -/
  zero : Bool
  /-- True iff bit 15 of the word is 1. -/
  negative : Bool
deriving DecidableEq, Repr

/-- R97: `zero <- (a == 0x0000)`, `negative <- a[15]`. -/
def comparator (a : Word) : Flags where
  zero := a == 0x0000#16
  negative := a.getLsbD 15

end Sys2Proof.Machine
end

