-- ==== Sys2Proof/Syntax.lean ====
section
/-!
DEFINITION. The syntax of the ALU core: the 64 control words as instructions (30_encoding.md R67, R68), the six fields
of a control word (R61), and what a driver presents on the input ports (10_state.md R22, R31).
-/

namespace Sys2Proof

/-- R61: a control word as its six fields, most significant first. True is 1 (R14). -/
structure Fields where
  /-- Bit 5: replace x by 0x0000. -/
  zeroX : Bool
  /-- Bit 4: complement x1. -/
  negateX : Bool
  /-- Bit 3: replace y by 0x0000. -/
  zeroY : Bool
  /-- Bit 2: complement y1. -/
  negateY : Bool
  /-- Bit 1: true = add, false = bitwise AND. -/
  useAdd : Bool
  /-- Bit 0: complement pre. -/
  negateOutput : Bool
deriving DecidableEq, Repr

/-- One constructor per row of spec/opcode_table.json, in its order. A control word has no operand fields (R64), so no
constructor takes an argument. The words of one alias class of R70 "remain distinct encodings" and are distinct here. -/
inductive Instr
  /-- R170: `AND`, control `000000`. -/
  | and
  /-- R171: `AND.NO`, control `000001`. -/
  | andNo
  /-- R130: `ADD`, control `000010`. -/
  | add
  /-- R131: `ADD.NO`, control `000011`. -/
  | addNo
  /-- R172: `AND.NY`, control `000100`. -/
  | andNy
  /-- R173: `AND.NY.NO`, control `000101`. -/
  | andNyNo
  /-- R132: `ADD.NY`, control `000110`. -/
  | addNy
  /-- R133: `ADD.NY.NO`, control `000111`. -/
  | addNyNo
  /-- R174: `AND.ZY`, control `001000`. -/
  | andZy
  /-- R175: `AND.ZY.NO`, control `001001`. -/
  | andZyNo
  /-- R134: `ADD.ZY`, control `001010`. -/
  | addZy
  /-- R135: `ADD.ZY.NO`, control `001011`. -/
  | addZyNo
  /-- R176: `AND.ZY.NY`, control `001100`. -/
  | andZyNy
  /-- R177: `AND.ZY.NY.NO`, control `001101`. -/
  | andZyNyNo
  /-- R136: `ADD.ZY.NY`, control `001110`. -/
  | addZyNy
  /-- R137: `ADD.ZY.NY.NO`, control `001111`. -/
  | addZyNyNo
  /-- R178: `AND.NX`, control `010000`. -/
  | andNx
  /-- R179: `AND.NX.NO`, control `010001`. -/
  | andNxNo
  /-- R138: `ADD.NX`, control `010010`. -/
  | addNx
  /-- R139: `ADD.NX.NO`, control `010011`. -/
  | addNxNo
  /-- R180: `AND.NX.NY`, control `010100`. -/
  | andNxNy
  /-- R181: `AND.NX.NY.NO`, control `010101`. -/
  | andNxNyNo
  /-- R140: `ADD.NX.NY`, control `010110`. -/
  | addNxNy
  /-- R141: `ADD.NX.NY.NO`, control `010111`. -/
  | addNxNyNo
  /-- R182: `AND.NX.ZY`, control `011000`. -/
  | andNxZy
  /-- R183: `AND.NX.ZY.NO`, control `011001`. -/
  | andNxZyNo
  /-- R142: `ADD.NX.ZY`, control `011010`. -/
  | addNxZy
  /-- R143: `ADD.NX.ZY.NO`, control `011011`. -/
  | addNxZyNo
  /-- R184: `AND.NX.ZY.NY`, control `011100`. -/
  | andNxZyNy
  /-- R185: `AND.NX.ZY.NY.NO`, control `011101`. -/
  | andNxZyNyNo
  /-- R144: `ADD.NX.ZY.NY`, control `011110`. -/
  | addNxZyNy
  /-- R145: `ADD.NX.ZY.NY.NO`, control `011111`. -/
  | addNxZyNyNo
  /-- R186: `AND.ZX`, control `100000`. -/
  | andZx
  /-- R187: `AND.ZX.NO`, control `100001`. -/
  | andZxNo
  /-- R146: `ADD.ZX`, control `100010`. -/
  | addZx
  /-- R147: `ADD.ZX.NO`, control `100011`. -/
  | addZxNo
  /-- R188: `AND.ZX.NY`, control `100100`. -/
  | andZxNy
  /-- R189: `AND.ZX.NY.NO`, control `100101`. -/
  | andZxNyNo
  /-- R148: `ADD.ZX.NY`, control `100110`. -/
  | addZxNy
  /-- R149: `ADD.ZX.NY.NO`, control `100111`. -/
  | addZxNyNo
  /-- R190: `AND.ZX.ZY`, control `101000`. -/
  | andZxZy
  /-- R191: `AND.ZX.ZY.NO`, control `101001`. -/
  | andZxZyNo
  /-- R150: `ADD.ZX.ZY`, control `101010`. -/
  | addZxZy
  /-- R151: `ADD.ZX.ZY.NO`, control `101011`. -/
  | addZxZyNo
  /-- R192: `AND.ZX.ZY.NY`, control `101100`. -/
  | andZxZyNy
  /-- R193: `AND.ZX.ZY.NY.NO`, control `101101`. -/
  | andZxZyNyNo
  /-- R152: `ADD.ZX.ZY.NY`, control `101110`. -/
  | addZxZyNy
  /-- R153: `ADD.ZX.ZY.NY.NO`, control `101111`. -/
  | addZxZyNyNo
  /-- R194: `AND.ZX.NX`, control `110000`. -/
  | andZxNx
  /-- R195: `AND.ZX.NX.NO`, control `110001`. -/
  | andZxNxNo
  /-- R154: `ADD.ZX.NX`, control `110010`. -/
  | addZxNx
  /-- R155: `ADD.ZX.NX.NO`, control `110011`. -/
  | addZxNxNo
  /-- R196: `AND.ZX.NX.NY`, control `110100`. -/
  | andZxNxNy
  /-- R197: `AND.ZX.NX.NY.NO`, control `110101`. -/
  | andZxNxNyNo
  /-- R156: `ADD.ZX.NX.NY`, control `110110`. -/
  | addZxNxNy
  /-- R157: `ADD.ZX.NX.NY.NO`, control `110111`. -/
  | addZxNxNyNo
  /-- R198: `AND.ZX.NX.ZY`, control `111000`. -/
  | andZxNxZy
  /-- R199: `AND.ZX.NX.ZY.NO`, control `111001`. -/
  | andZxNxZyNo
  /-- R158: `ADD.ZX.NX.ZY`, control `111010`. -/
  | addZxNxZy
  /-- R159: `ADD.ZX.NX.ZY.NO`, control `111011`. -/
  | addZxNxZyNo
  /-- R200: `AND.ZX.NX.ZY.NY`, control `111100`. -/
  | andZxNxZyNy
  /-- R201: `AND.ZX.NX.ZY.NY.NO`, control `111101`. -/
  | andZxNxZyNyNo
  /-- R160: `ADD.ZX.NX.ZY.NY`, control `111110`. -/
  | addZxNxZyNy
  /-- R161: `ADD.ZX.NX.ZY.NY.NO`, control `111111`. -/
  | addZxNxZyNyNo
deriving DecidableEq, Repr

/-- R31: the level on one input wire. "An input bit at a level that is neither 0 nor 1 (undriven, high-impedance,
unknown) has no meaning". -/
inductive Level
  /-- Logic 0. -/
  | low
  /-- Logic 1. -/
  | high
  /-- Neither 0 nor 1. -/
  | nonLogic
deriving DecidableEq, Repr

/-- R22, R72: what a driver presents on the ALU's three input ports, each port a list of wire levels, bit 0 first. A list
may have the wrong length (a width violation, R212) or hold a level that is not a logic level (R31). -/
structure Stimulus where
  /-- The levels on port `x`. -/
  x : List Level
  /-- The levels on port `y`. -/
  y : List Level
  /-- The levels on port `control`. -/
  control : List Level
deriving DecidableEq, Repr

end Sys2Proof
end

