-- ==== Sys2Proof/WellFormed.lean ====
section
/-!
DEFINITION. The checks on syntax: every instruction is legal (30_encoding.md R63, R69), and a presented port value is
well formed when it has the port's width and every wire is at a logic level (10_state.md R31, 60_exceptions.md R212).
-/

namespace Sys2Proof

/-- R63, R69: "any of the 64 combinations is legal input", so no instruction is ill formed. -/
def Instr.wellFormed (_ : Instr) : Bool := true

/-- R31: the level is a logic 0 or 1. -/
def Level.isLogic : Level → Bool
  | .low => true
  | .high => true
  | .nonLogic => false

/-- R31, R212: exactly `w` wires, each at a logic level. -/
def portWellFormed (w : Nat) (levels : List Level) : Bool :=
  levels.length == w && levels.all Level.isLogic

/-- R22, R31: the ALU's input ports are 16, 16 and 6 bits wide. -/
def Stimulus.wellFormed (p : Stimulus) : Bool :=
  portWellFormed 16 p.x && portWellFormed 16 p.y && portWellFormed 6 p.control

end Sys2Proof
end

