-- ==== Sys2Proof/Decode.lean ====
section
/-!
DEFINITION. The control-word encoding CTL6 (30_encoding.md): the wiring of the six fields (R61, R73), the decoder, total
on the 6-bit port (R63), the decoder of a number, which refuses a width violation by name (R212), the encoder, written
from the table of R67, and the mnemonics of R68.
-/

namespace Sys2Proof

/-- R61, R73: "each field is one bit of the port". -/
def Fields.ofControl (c : Control) : Fields where
  zeroX := c.getLsbD 5
  negateX := c.getLsbD 4
  zeroY := c.getLsbD 3
  negateY := c.getLsbD 2
  useAdd := c.getLsbD 1
  negateOutput := c.getLsbD 0

/-- R67: the instruction with these fields, in the order zeroX, negateX, zeroY, negateY, useAdd, negateOutput. -/
def Instr.ofFields : Fields → Instr
  | ⟨false, false, false, false, false, false⟩ => .and
  | ⟨false, false, false, false, false, true⟩ => .andNo
  | ⟨false, false, false, false, true, false⟩ => .add
  | ⟨false, false, false, false, true, true⟩ => .addNo
  | ⟨false, false, false, true, false, false⟩ => .andNy
  | ⟨false, false, false, true, false, true⟩ => .andNyNo
  | ⟨false, false, false, true, true, false⟩ => .addNy
  | ⟨false, false, false, true, true, true⟩ => .addNyNo
  | ⟨false, false, true, false, false, false⟩ => .andZy
  | ⟨false, false, true, false, false, true⟩ => .andZyNo
  | ⟨false, false, true, false, true, false⟩ => .addZy
  | ⟨false, false, true, false, true, true⟩ => .addZyNo
  | ⟨false, false, true, true, false, false⟩ => .andZyNy
  | ⟨false, false, true, true, false, true⟩ => .andZyNyNo
  | ⟨false, false, true, true, true, false⟩ => .addZyNy
  | ⟨false, false, true, true, true, true⟩ => .addZyNyNo
  | ⟨false, true, false, false, false, false⟩ => .andNx
  | ⟨false, true, false, false, false, true⟩ => .andNxNo
  | ⟨false, true, false, false, true, false⟩ => .addNx
  | ⟨false, true, false, false, true, true⟩ => .addNxNo
  | ⟨false, true, false, true, false, false⟩ => .andNxNy
  | ⟨false, true, false, true, false, true⟩ => .andNxNyNo
  | ⟨false, true, false, true, true, false⟩ => .addNxNy
  | ⟨false, true, false, true, true, true⟩ => .addNxNyNo
  | ⟨false, true, true, false, false, false⟩ => .andNxZy
  | ⟨false, true, true, false, false, true⟩ => .andNxZyNo
  | ⟨false, true, true, false, true, false⟩ => .addNxZy
  | ⟨false, true, true, false, true, true⟩ => .addNxZyNo
  | ⟨false, true, true, true, false, false⟩ => .andNxZyNy
  | ⟨false, true, true, true, false, true⟩ => .andNxZyNyNo
  | ⟨false, true, true, true, true, false⟩ => .addNxZyNy
  | ⟨false, true, true, true, true, true⟩ => .addNxZyNyNo
  | ⟨true, false, false, false, false, false⟩ => .andZx
  | ⟨true, false, false, false, false, true⟩ => .andZxNo
  | ⟨true, false, false, false, true, false⟩ => .addZx
  | ⟨true, false, false, false, true, true⟩ => .addZxNo
  | ⟨true, false, false, true, false, false⟩ => .andZxNy
  | ⟨true, false, false, true, false, true⟩ => .andZxNyNo
  | ⟨true, false, false, true, true, false⟩ => .addZxNy
  | ⟨true, false, false, true, true, true⟩ => .addZxNyNo
  | ⟨true, false, true, false, false, false⟩ => .andZxZy
  | ⟨true, false, true, false, false, true⟩ => .andZxZyNo
  | ⟨true, false, true, false, true, false⟩ => .addZxZy
  | ⟨true, false, true, false, true, true⟩ => .addZxZyNo
  | ⟨true, false, true, true, false, false⟩ => .andZxZyNy
  | ⟨true, false, true, true, false, true⟩ => .andZxZyNyNo
  | ⟨true, false, true, true, true, false⟩ => .addZxZyNy
  | ⟨true, false, true, true, true, true⟩ => .addZxZyNyNo
  | ⟨true, true, false, false, false, false⟩ => .andZxNx
  | ⟨true, true, false, false, false, true⟩ => .andZxNxNo
  | ⟨true, true, false, false, true, false⟩ => .addZxNx
  | ⟨true, true, false, false, true, true⟩ => .addZxNxNo
  | ⟨true, true, false, true, false, false⟩ => .andZxNxNy
  | ⟨true, true, false, true, false, true⟩ => .andZxNxNyNo
  | ⟨true, true, false, true, true, false⟩ => .addZxNxNy
  | ⟨true, true, false, true, true, true⟩ => .addZxNxNyNo
  | ⟨true, true, true, false, false, false⟩ => .andZxNxZy
  | ⟨true, true, true, false, false, true⟩ => .andZxNxZyNo
  | ⟨true, true, true, false, true, false⟩ => .addZxNxZy
  | ⟨true, true, true, false, true, true⟩ => .addZxNxZyNo
  | ⟨true, true, true, true, false, false⟩ => .andZxNxZyNy
  | ⟨true, true, true, true, false, true⟩ => .andZxNxZyNyNo
  | ⟨true, true, true, true, true, false⟩ => .addZxNxZyNy
  | ⟨true, true, true, true, true, true⟩ => .addZxNxZyNyNo

/-- R63: the instruction on the port `control`; total, since all 64 values are legal. -/
def decode (c : Control) : Instr := Instr.ofFields (Fields.ofControl c)

/-- Why a number is no control word. -/
inductive DecodeError
  /-- R31, R212, U5: a value outside the 6 bits of the port. -/
  | widthViolation
deriving DecidableEq, Repr

/-- R31, R212: the instruction whose control word has the unsigned value `n`; a value that needs more than 6 bits is a
"width violation", refused by name. -/
def decodeNat (n : Nat) : Except DecodeError Instr :=
  if n < 64 then .ok (decode (BitVec.ofNat 6 n)) else .error .widthViolation

/-- The instruction of a row of spec/opcode_table.json, its bits numbered as the table numbers them: bit 0 is bit 0 of
`control`. The port is 6 wires, so a word with a bit above bit 5 is refused (log 10, log 14). -/
def decodeTableWord (_nbits w : Nat) : Option Instr :=
  match decodeNat w with
  | .ok i => some i
  | .error _ => none

/-- R62, R67: the control word of an instruction, six binary digits from bit 5 to bit 0. -/
def encode : Instr → Control
  | .and => 0b000000#6
  | .andNo => 0b000001#6
  | .add => 0b000010#6
  | .addNo => 0b000011#6
  | .andNy => 0b000100#6
  | .andNyNo => 0b000101#6
  | .addNy => 0b000110#6
  | .addNyNo => 0b000111#6
  | .andZy => 0b001000#6
  | .andZyNo => 0b001001#6
  | .addZy => 0b001010#6
  | .addZyNo => 0b001011#6
  | .andZyNy => 0b001100#6
  | .andZyNyNo => 0b001101#6
  | .addZyNy => 0b001110#6
  | .addZyNyNo => 0b001111#6
  | .andNx => 0b010000#6
  | .andNxNo => 0b010001#6
  | .addNx => 0b010010#6
  | .addNxNo => 0b010011#6
  | .andNxNy => 0b010100#6
  | .andNxNyNo => 0b010101#6
  | .addNxNy => 0b010110#6
  | .addNxNyNo => 0b010111#6
  | .andNxZy => 0b011000#6
  | .andNxZyNo => 0b011001#6
  | .addNxZy => 0b011010#6
  | .addNxZyNo => 0b011011#6
  | .andNxZyNy => 0b011100#6
  | .andNxZyNyNo => 0b011101#6
  | .addNxZyNy => 0b011110#6
  | .addNxZyNyNo => 0b011111#6
  | .andZx => 0b100000#6
  | .andZxNo => 0b100001#6
  | .addZx => 0b100010#6
  | .addZxNo => 0b100011#6
  | .andZxNy => 0b100100#6
  | .andZxNyNo => 0b100101#6
  | .addZxNy => 0b100110#6
  | .addZxNyNo => 0b100111#6
  | .andZxZy => 0b101000#6
  | .andZxZyNo => 0b101001#6
  | .addZxZy => 0b101010#6
  | .addZxZyNo => 0b101011#6
  | .andZxZyNy => 0b101100#6
  | .andZxZyNyNo => 0b101101#6
  | .addZxZyNy => 0b101110#6
  | .addZxZyNyNo => 0b101111#6
  | .andZxNx => 0b110000#6
  | .andZxNxNo => 0b110001#6
  | .addZxNx => 0b110010#6
  | .addZxNxNo => 0b110011#6
  | .andZxNxNy => 0b110100#6
  | .andZxNxNyNo => 0b110101#6
  | .addZxNxNy => 0b110110#6
  | .addZxNxNyNo => 0b110111#6
  | .andZxNxZy => 0b111000#6
  | .andZxNxZyNo => 0b111001#6
  | .addZxNxZy => 0b111010#6
  | .addZxNxZyNo => 0b111011#6
  | .andZxNxZyNy => 0b111100#6
  | .andZxNxZyNyNo => 0b111101#6
  | .addZxNxZyNy => 0b111110#6
  | .addZxNxZyNyNo => 0b111111#6

/-- R61, R67: the fields of an instruction as its rule's "Encoding" sentence lists them. -/
def Instr.fields : Instr → Fields
  | .and => ⟨false, false, false, false, false, false⟩
  | .andNo => ⟨false, false, false, false, false, true⟩
  | .add => ⟨false, false, false, false, true, false⟩
  | .addNo => ⟨false, false, false, false, true, true⟩
  | .andNy => ⟨false, false, false, true, false, false⟩
  | .andNyNo => ⟨false, false, false, true, false, true⟩
  | .addNy => ⟨false, false, false, true, true, false⟩
  | .addNyNo => ⟨false, false, false, true, true, true⟩
  | .andZy => ⟨false, false, true, false, false, false⟩
  | .andZyNo => ⟨false, false, true, false, false, true⟩
  | .addZy => ⟨false, false, true, false, true, false⟩
  | .addZyNo => ⟨false, false, true, false, true, true⟩
  | .andZyNy => ⟨false, false, true, true, false, false⟩
  | .andZyNyNo => ⟨false, false, true, true, false, true⟩
  | .addZyNy => ⟨false, false, true, true, true, false⟩
  | .addZyNyNo => ⟨false, false, true, true, true, true⟩
  | .andNx => ⟨false, true, false, false, false, false⟩
  | .andNxNo => ⟨false, true, false, false, false, true⟩
  | .addNx => ⟨false, true, false, false, true, false⟩
  | .addNxNo => ⟨false, true, false, false, true, true⟩
  | .andNxNy => ⟨false, true, false, true, false, false⟩
  | .andNxNyNo => ⟨false, true, false, true, false, true⟩
  | .addNxNy => ⟨false, true, false, true, true, false⟩
  | .addNxNyNo => ⟨false, true, false, true, true, true⟩
  | .andNxZy => ⟨false, true, true, false, false, false⟩
  | .andNxZyNo => ⟨false, true, true, false, false, true⟩
  | .addNxZy => ⟨false, true, true, false, true, false⟩
  | .addNxZyNo => ⟨false, true, true, false, true, true⟩
  | .andNxZyNy => ⟨false, true, true, true, false, false⟩
  | .andNxZyNyNo => ⟨false, true, true, true, false, true⟩
  | .addNxZyNy => ⟨false, true, true, true, true, false⟩
  | .addNxZyNyNo => ⟨false, true, true, true, true, true⟩
  | .andZx => ⟨true, false, false, false, false, false⟩
  | .andZxNo => ⟨true, false, false, false, false, true⟩
  | .addZx => ⟨true, false, false, false, true, false⟩
  | .addZxNo => ⟨true, false, false, false, true, true⟩
  | .andZxNy => ⟨true, false, false, true, false, false⟩
  | .andZxNyNo => ⟨true, false, false, true, false, true⟩
  | .addZxNy => ⟨true, false, false, true, true, false⟩
  | .addZxNyNo => ⟨true, false, false, true, true, true⟩
  | .andZxZy => ⟨true, false, true, false, false, false⟩
  | .andZxZyNo => ⟨true, false, true, false, false, true⟩
  | .addZxZy => ⟨true, false, true, false, true, false⟩
  | .addZxZyNo => ⟨true, false, true, false, true, true⟩
  | .andZxZyNy => ⟨true, false, true, true, false, false⟩
  | .andZxZyNyNo => ⟨true, false, true, true, false, true⟩
  | .addZxZyNy => ⟨true, false, true, true, true, false⟩
  | .addZxZyNyNo => ⟨true, false, true, true, true, true⟩
  | .andZxNx => ⟨true, true, false, false, false, false⟩
  | .andZxNxNo => ⟨true, true, false, false, false, true⟩
  | .addZxNx => ⟨true, true, false, false, true, false⟩
  | .addZxNxNo => ⟨true, true, false, false, true, true⟩
  | .andZxNxNy => ⟨true, true, false, true, false, false⟩
  | .andZxNxNyNo => ⟨true, true, false, true, false, true⟩
  | .addZxNxNy => ⟨true, true, false, true, true, false⟩
  | .addZxNxNyNo => ⟨true, true, false, true, true, true⟩
  | .andZxNxZy => ⟨true, true, true, false, false, false⟩
  | .andZxNxZyNo => ⟨true, true, true, false, false, true⟩
  | .addZxNxZy => ⟨true, true, true, false, true, false⟩
  | .addZxNxZyNo => ⟨true, true, true, false, true, true⟩
  | .andZxNxZyNy => ⟨true, true, true, true, false, false⟩
  | .andZxNxZyNyNo => ⟨true, true, true, true, false, true⟩
  | .addZxNxZyNy => ⟨true, true, true, true, true, false⟩
  | .addZxNxZyNyNo => ⟨true, true, true, true, true, true⟩

/-- R68: one suffix when the field is 1, nothing otherwise. -/
def suffixIf (field : Bool) (suffix : String) : String := if field then suffix else ""

/-- R68: the base, then "one suffix for each other field that is 1, in bit order". -/
def Fields.mnemonic (f : Fields) : String :=
  (if f.useAdd then "ADD" else "AND") ++ suffixIf f.zeroX ".ZX" ++ suffixIf f.negateX ".NX"
    ++ suffixIf f.zeroY ".ZY" ++ suffixIf f.negateY ".NY" ++ suffixIf f.negateOutput ".NO"

/-- R68: an instruction's mnemonic. -/
def Instr.mnemonic (i : Instr) : String := i.fields.mnemonic

end Sys2Proof
end

