-- ==== Sys2Proof/Machine/Operands.lean ====
section
/-!
DEFINITION. The operand stages: the Zeroer and the Inverter (40_components.md R80, R83), the conditioning of x and y
(41_alu.md R111, R112), and how the levels on an input port are read as a word (00_scope.md R9, 10_state.md R31).
-/

namespace Sys2Proof.Machine

/-- R80: `output <- if enable then 0x0000 else input`. -/
def zeroer (enable : Bool) (input : Word) : Word := if enable then 0x0000#16 else input

/-- R83: `output <- if enable then ~input else input`. -/
def inverter (enable : Bool) (input : Word) : Word := if enable then ~~~input else input

/-- R111, steps 1 and 2: x2, the invert stage reading x1 and not x. -/
def conditionX (f : Fields) (x : Word) : Word :=
  let x1 := zeroer f.zeroX x
  inverter f.negateX x1

/-- R112, steps 3 and 4: y2, the invert stage reading y1 and not y. -/
def conditionY (f : Fields) (y : Word) : Word :=
  let y1 := zeroer f.zeroY y
  inverter f.negateY y1

/-- R14, R31: the bit on a wire, if its level is a logic level. -/
def levelBit : Level → Option Bool
  | .low => some false
  | .high => some true
  | .nonLogic => none

/-- R9: the unsigned value of the wires, bit 0 first: the sum of `v[i] * 2^i`. None when a level is no logic level. -/
def levelsValue : List Level → Option Nat
  | [] => some 0
  | l :: rest =>
    match levelBit l, levelsValue rest with
    | some b, some n => some (b.toNat + 2 * n)
    | _, _ => none

/-- R31, R212: the word on a `w`-bit input port, or the reason it is refused. -/
def readPort (w : Nat) (levels : List Level) : Except Refusal (BitVec w) :=
  if levels.length = w then
    match levelsValue levels with
    | some n => .ok (BitVec.ofNat w n)
    | none => .error .nonLogicLevel
  else .error .widthViolation

/-- R9, R14: the levels of a word's bits, bit 0 first. -/
def wordLevels {w : Nat} (v : BitVec w) : List Level :=
  (List.range w).map fun i => if v.getLsbD i then .high else .low

end Sys2Proof.Machine
end

