-- ==== Sys2Proof/Machine/Alu.lean ====
section
/-!
DEFINITION. The ALU: its stages as a composition of sub-blocks (41_alu.md R110 to R115), and the complete function as one
piece of pseudocode (R116), which governs.
-/

namespace Sys2Proof.Machine

/-- R113, step 5: the Adder's sum or the lane-wise AND. -/
def selectFunction (f : Fields) (x2 y2 : Word) : Word := if f.useAdd then adder x2 y2 else x2 &&& y2

/-- R111 to R114, steps 1 to 6: the result of the stages with these fields. -/
def aluResult (f : Fields) (x y : Word) : Word :=
  let x2 := conditionX f x
  let y2 := conditionY f y
  let pre := selectFunction f x2 y2
  inverter f.negateOutput pre

/-- R116: `ALU(x, y, control)`, returning (result, zero, negative). The reference the composition above must equal. -/
def alu (x y : Word) (control : Control) : Word × Bool × Bool :=
  let zx := control.getLsbD 5
  let nx := control.getLsbD 4
  let zy := control.getLsbD 3
  let ny := control.getLsbD 2
  let f := control.getLsbD 1
  let no := control.getLsbD 0
  let x1 := if zx then 0x0000#16 else x
  let x2 := if nx then ~~~x1 else x1
  let y1 := if zy then 0x0000#16 else y
  let y2 := if ny then ~~~y1 else y1
  let pre := if f then BitVec.ofNat 16 ((x2.toNat + y2.toNat) % 65536) else x2 &&& y2
  let result := if no then ~~~pre else pre
  let zero := result == 0x0000#16
  let negative := result.getLsbD 15
  (result, zero, negative)

end Sys2Proof.Machine
end

