-- ==== Sys2Proof/Machine/Ops.lean ====
section
/-!
DEFINITION. The named operations on State: driving the ALU's outputs, one evaluation, and the passing of one unit of time
with its settling windows (70_reset_and_hazards.md R241, R244). There is no memory (20_memory.md R40) and no exception
(60_exceptions.md R210, R215), so there is no operation for either.
-/

namespace Sys2Proof.Machine

/-- R114, R115, R246: the three outputs of the ALU show `r` and the Comparator's flags of `r`. -/
def State.driveOutputs (s : State) (r : Word) : State :=
  { s with result := r, zero := (comparator r).zero, negative := (comparator r).negative }

/-- R110 to R115: one settled evaluation with these fields; the shared body of every instruction's meaning. It reads the
ports x and y and drives the three outputs; it has no other effect (R45) and cannot fail (R118). -/
def State.evaluate (f : Fields) (s : State) : Host.Outcome State Fault Refusal :=
  .next (s.driveOutputs (aluResult f s.x s.y))

/-- R80, R241, R244: one unit of time at the stand-alone Zeroer; `n` is the index of the free value. -/
def tickZeroer (n : Nat) (p : ZeroerPorts) : ZeroerPorts :=
  if p.settling - 1 = 0 then { p with output := zeroer p.enable p.input, settling := 0 }
  else { p with output := Config.unsettledWord .zeroerOutput n, settling := p.settling - 1 }

/-- R83, R241, R244: one unit of time at the stand-alone Inverter. -/
def tickInverter (n : Nat) (p : InverterPorts) : InverterPorts :=
  if p.settling - 1 = 0 then { p with output := inverter p.enable p.input, settling := 0 }
  else { p with output := Config.unsettledWord .inverterOutput n, settling := p.settling - 1 }

/-- R87, R241, R244: one unit of time at the stand-alone Adder. -/
def tickAdder (n : Nat) (p : AdderPorts) : AdderPorts :=
  if p.settling - 1 = 0 then { p with sum := adder p.a p.b, settling := 0 }
  else { p with sum := Config.unsettledWord .adderSum n, settling := p.settling - 1 }

/-- R93, R241, R244: one unit of time at the Incrementer. -/
def tickIncrementer (n : Nat) (p : IncrementerPorts) : IncrementerPorts :=
  if p.settling - 1 = 0 then { p with output := incrementer p.a, settling := 0 }
  else { p with output := Config.unsettledWord .incrementerOutput n, settling := p.settling - 1 }

/-- R97, R241, R244: one unit of time at the stand-alone Comparator. -/
def tickComparator (n : Nat) (p : ComparatorPorts) : ComparatorPorts :=
  if p.settling - 1 = 0 then
    { p with zero := (comparator p.a).zero, negative := (comparator p.a).negative, settling := 0 }
  else
    { p with zero := Config.unsettledBit .comparatorZero n, negative := Config.unsettledBit .comparatorNegative n,
             settling := p.settling - 1 }

/-- The stand-alone sub-blocks over one unit of time. They share nothing with the ALU or each other (R221). -/
def State.tickBlocks (s : State) : State :=
  { s with
    zeroerBlock := tickZeroer s.ticks s.zeroerBlock
    inverterBlock := tickInverter s.ticks s.inverterBlock
    adderBlock := tickAdder s.ticks s.adderBlock
    incrementerBlock := tickIncrementer s.ticks s.incrementerBlock
    comparatorBlock := tickComparator s.ticks s.comparatorBlock }

/-- R241, R244: the ALU's outputs are unspecified, each a free value of its own. -/
def State.unsettleOutputs (s : State) : State :=
  { s with
    result := Config.unsettledWord .result s.ticks
    zero := Config.unsettledBit .zero s.ticks
    negative := Config.unsettledBit .negative s.ticks }

/-- One unit of time with the ALU's inputs stable (R244): its window shrinks by one, and so do the windows of the
sub-blocks. Whether the ALU's outputs have settled is for the step to say. -/
def State.passTime (s : State) : State :=
  { s.tickBlocks with settling := s.settling - 1, ticks := s.ticks + 1 }

/-- R241, R244: the end of a unit of time inside the ALU's window, its outputs free values of the index the unit began
with. -/
def State.glitch (s : State) : State := s.unsettleOutputs.passTime

/-- The port of the control word: what step decodes. Nothing is fetched (R40, R51). -/
def State.fetch (s : State) : Instr := decode s.control

/-- The driver has put the control word on its port and held all 38 input bits stable for `T_pd` (R243), so the ALU's
window has closed. -/
def State.presentSettledControl (s : State) (c : Control) : State := { s with control := c, settling := 0 }

end Sys2Proof.Machine
end

