-- ==== Sys2Proof/Machine/AddFamily.lean ====
section
/-!
DEFINITION. The 32 add-family control words, useAdd = 1 (42_ctl_add.md R130 to R161).
Each meaning is one settled evaluation with the fields its rule's "Encoding" sentence lists, under 41_alu.md R116; its
docstring quotes the rule's pseudocode and closed form. None faults or is refused (60_exceptions.md R210).
-/

namespace Sys2Proof.Machine

/-- R130, `ADD`, `000010`: `x2 <- x; y2 <- y; pre <- (x2 + y2) mod 65536; result <- pre`.
Closed form: `x + y`. -/
def execAdd (s : State) : Host.Outcome State Fault Refusal :=
  s.evaluate
    { zeroX := false, negateX := false, zeroY := false, negateY := false, useAdd := true, negateOutput := false }

/-- R131, `ADD.NO`, `000011`: `x2 <- x; y2 <- y; pre <- (x2 + y2) mod 65536; result <- ~pre`.
Closed form: `-x - y - 1 (= ~(x + y))`. -/
def execAddNo (s : State) : Host.Outcome State Fault Refusal :=
  s.evaluate
    { zeroX := false, negateX := false, zeroY := false, negateY := false, useAdd := true, negateOutput := true }

/-- R132, `ADD.NY`, `000110`: `x2 <- x; y2 <- ~y; pre <- (x2 + y2) mod 65536; result <- pre`.
Closed form: `x - y - 1 (= ~(y - x))`. -/
def execAddNy (s : State) : Host.Outcome State Fault Refusal :=
  s.evaluate
    { zeroX := false, negateX := false, zeroY := false, negateY := true, useAdd := true, negateOutput := false }

/-- R133, `ADD.NY.NO`, `000111`: `x2 <- x; y2 <- ~y; pre <- (x2 + y2) mod 65536; result <- ~pre`.
Closed form: `y - x`. -/
def execAddNyNo (s : State) : Host.Outcome State Fault Refusal :=
  s.evaluate
    { zeroX := false, negateX := false, zeroY := false, negateY := true, useAdd := true, negateOutput := true }

/-- R134, `ADD.ZY`, `001010`: `x2 <- x; y2 <- 0x0000; pre <- (x2 + y2) mod 65536; result <- pre`.
Closed form: `x`. -/
def execAddZy (s : State) : Host.Outcome State Fault Refusal :=
  s.evaluate
    { zeroX := false, negateX := false, zeroY := true, negateY := false, useAdd := true, negateOutput := false }

/-- R135, `ADD.ZY.NO`, `001011`: `x2 <- x; y2 <- 0x0000; pre <- (x2 + y2) mod 65536; result <- ~pre`.
Closed form: `-x - 1 (= ~x)`. -/
def execAddZyNo (s : State) : Host.Outcome State Fault Refusal :=
  s.evaluate
    { zeroX := false, negateX := false, zeroY := true, negateY := false, useAdd := true, negateOutput := true }

/-- R136, `ADD.ZY.NY`, `001110`: `x2 <- x; y2 <- ~0x0000 = 0xFFFF; pre <- (x2 + y2) mod 65536; result <- pre`.
Closed form: `x - 1`. -/
def execAddZyNy (s : State) : Host.Outcome State Fault Refusal :=
  s.evaluate
    { zeroX := false, negateX := false, zeroY := true, negateY := true, useAdd := true, negateOutput := false }

/-- R137, `ADD.ZY.NY.NO`, `001111`: `x2 <- x; y2 <- ~0x0000 = 0xFFFF; pre <- (x2 + y2) mod 65536; result <- ~pre`.
Closed form: `-x`. -/
def execAddZyNyNo (s : State) : Host.Outcome State Fault Refusal :=
  s.evaluate
    { zeroX := false, negateX := false, zeroY := true, negateY := true, useAdd := true, negateOutput := true }

/-- R138, `ADD.NX`, `010010`: `x2 <- ~x; y2 <- y; pre <- (x2 + y2) mod 65536; result <- pre`.
Closed form: `y - x - 1 (= ~(x - y))`. -/
def execAddNx (s : State) : Host.Outcome State Fault Refusal :=
  s.evaluate
    { zeroX := false, negateX := true, zeroY := false, negateY := false, useAdd := true, negateOutput := false }

/-- R139, `ADD.NX.NO`, `010011`: `x2 <- ~x; y2 <- y; pre <- (x2 + y2) mod 65536; result <- ~pre`.
Closed form: `x - y`. -/
def execAddNxNo (s : State) : Host.Outcome State Fault Refusal :=
  s.evaluate
    { zeroX := false, negateX := true, zeroY := false, negateY := false, useAdd := true, negateOutput := true }

/-- R140, `ADD.NX.NY`, `010110`: `x2 <- ~x; y2 <- ~y; pre <- (x2 + y2) mod 65536; result <- pre`.
Closed form: `-x - y - 2`. -/
def execAddNxNy (s : State) : Host.Outcome State Fault Refusal :=
  s.evaluate
    { zeroX := false, negateX := true, zeroY := false, negateY := true, useAdd := true, negateOutput := false }

/-- R141, `ADD.NX.NY.NO`, `010111`: `x2 <- ~x; y2 <- ~y; pre <- (x2 + y2) mod 65536; result <- ~pre`.
Closed form: `x + y + 1`. -/
def execAddNxNyNo (s : State) : Host.Outcome State Fault Refusal :=
  s.evaluate
    { zeroX := false, negateX := true, zeroY := false, negateY := true, useAdd := true, negateOutput := true }

/-- R142, `ADD.NX.ZY`, `011010`: `x2 <- ~x; y2 <- 0x0000; pre <- (x2 + y2) mod 65536; result <- pre`.
Closed form: `-x - 1 (= ~x)`. -/
def execAddNxZy (s : State) : Host.Outcome State Fault Refusal :=
  s.evaluate
    { zeroX := false, negateX := true, zeroY := true, negateY := false, useAdd := true, negateOutput := false }

/-- R143, `ADD.NX.ZY.NO`, `011011`: `x2 <- ~x; y2 <- 0x0000; pre <- (x2 + y2) mod 65536; result <- ~pre`.
Closed form: `x`. -/
def execAddNxZyNo (s : State) : Host.Outcome State Fault Refusal :=
  s.evaluate
    { zeroX := false, negateX := true, zeroY := true, negateY := false, useAdd := true, negateOutput := true }

/-- R144, `ADD.NX.ZY.NY`, `011110`: `x2 <- ~x; y2 <- ~0x0000 = 0xFFFF; pre <- (x2 + y2) mod 65536; result <- pre`.
Closed form: `-x - 2`. -/
def execAddNxZyNy (s : State) : Host.Outcome State Fault Refusal :=
  s.evaluate
    { zeroX := false, negateX := true, zeroY := true, negateY := true, useAdd := true, negateOutput := false }

/-- R145, `ADD.NX.ZY.NY.NO`, `011111`: `x2 <- ~x; y2 <- ~0x0000 = 0xFFFF; pre <- (x2 + y2) mod 65536; result <- ~pre`.
Closed form: `x + 1`. -/
def execAddNxZyNyNo (s : State) : Host.Outcome State Fault Refusal :=
  s.evaluate
    { zeroX := false, negateX := true, zeroY := true, negateY := true, useAdd := true, negateOutput := true }

/-- R146, `ADD.ZX`, `100010`: `x2 <- 0x0000; y2 <- y; pre <- (x2 + y2) mod 65536; result <- pre`.
Closed form: `y`. -/
def execAddZx (s : State) : Host.Outcome State Fault Refusal :=
  s.evaluate
    { zeroX := true, negateX := false, zeroY := false, negateY := false, useAdd := true, negateOutput := false }

/-- R147, `ADD.ZX.NO`, `100011`: `x2 <- 0x0000; y2 <- y; pre <- (x2 + y2) mod 65536; result <- ~pre`.
Closed form: `-y - 1 (= ~y)`. -/
def execAddZxNo (s : State) : Host.Outcome State Fault Refusal :=
  s.evaluate
    { zeroX := true, negateX := false, zeroY := false, negateY := false, useAdd := true, negateOutput := true }

/-- R148, `ADD.ZX.NY`, `100110`: `x2 <- 0x0000; y2 <- ~y; pre <- (x2 + y2) mod 65536; result <- pre`.
Closed form: `-y - 1 (= ~y)`. -/
def execAddZxNy (s : State) : Host.Outcome State Fault Refusal :=
  s.evaluate
    { zeroX := true, negateX := false, zeroY := false, negateY := true, useAdd := true, negateOutput := false }

/-- R149, `ADD.ZX.NY.NO`, `100111`: `x2 <- 0x0000; y2 <- ~y; pre <- (x2 + y2) mod 65536; result <- ~pre`.
Closed form: `y`. -/
def execAddZxNyNo (s : State) : Host.Outcome State Fault Refusal :=
  s.evaluate
    { zeroX := true, negateX := false, zeroY := false, negateY := true, useAdd := true, negateOutput := true }

/-- R150, `ADD.ZX.ZY`, `101010`: `x2 <- 0x0000; y2 <- 0x0000; pre <- (x2 + y2) mod 65536; result <- pre`.
Closed form: `0x0000`. -/
def execAddZxZy (s : State) : Host.Outcome State Fault Refusal :=
  s.evaluate
    { zeroX := true, negateX := false, zeroY := true, negateY := false, useAdd := true, negateOutput := false }

/-- R151, `ADD.ZX.ZY.NO`, `101011`: `x2 <- 0x0000; y2 <- 0x0000; pre <- (x2 + y2) mod 65536; result <- ~pre`.
Closed form: `0xFFFF (= -1)`. -/
def execAddZxZyNo (s : State) : Host.Outcome State Fault Refusal :=
  s.evaluate
    { zeroX := true, negateX := false, zeroY := true, negateY := false, useAdd := true, negateOutput := true }

/-- R152, `ADD.ZX.ZY.NY`, `101110`: `x2 <- 0x0000; y2 <- ~0x0000 = 0xFFFF; pre <- (x2 + y2) mod 65536; result <- pre`.
Closed form: `0xFFFF (= -1)`. -/
def execAddZxZyNy (s : State) : Host.Outcome State Fault Refusal :=
  s.evaluate
    { zeroX := true, negateX := false, zeroY := true, negateY := true, useAdd := true, negateOutput := false }

/-- R153, `ADD.ZX.ZY.NY.NO`, `101111`: `x2 <- 0x0000; y2 <- ~0x0000 = 0xFFFF; pre <- (x2 + y2) mod 65536; result <- ~pre`.
Closed form: `0x0000`. -/
def execAddZxZyNyNo (s : State) : Host.Outcome State Fault Refusal :=
  s.evaluate
    { zeroX := true, negateX := false, zeroY := true, negateY := true, useAdd := true, negateOutput := true }

/-- R154, `ADD.ZX.NX`, `110010`: `x2 <- ~0x0000 = 0xFFFF; y2 <- y; pre <- (x2 + y2) mod 65536; result <- pre`.
Closed form: `y - 1`. -/
def execAddZxNx (s : State) : Host.Outcome State Fault Refusal :=
  s.evaluate
    { zeroX := true, negateX := true, zeroY := false, negateY := false, useAdd := true, negateOutput := false }

/-- R155, `ADD.ZX.NX.NO`, `110011`: `x2 <- ~0x0000 = 0xFFFF; y2 <- y; pre <- (x2 + y2) mod 65536; result <- ~pre`.
Closed form: `-y`. -/
def execAddZxNxNo (s : State) : Host.Outcome State Fault Refusal :=
  s.evaluate
    { zeroX := true, negateX := true, zeroY := false, negateY := false, useAdd := true, negateOutput := true }

/-- R156, `ADD.ZX.NX.NY`, `110110`: `x2 <- ~0x0000 = 0xFFFF; y2 <- ~y; pre <- (x2 + y2) mod 65536; result <- pre`.
Closed form: `-y - 2`. -/
def execAddZxNxNy (s : State) : Host.Outcome State Fault Refusal :=
  s.evaluate
    { zeroX := true, negateX := true, zeroY := false, negateY := true, useAdd := true, negateOutput := false }

/-- R157, `ADD.ZX.NX.NY.NO`, `110111`: `x2 <- ~0x0000 = 0xFFFF; y2 <- ~y; pre <- (x2 + y2) mod 65536; result <- ~pre`.
Closed form: `y + 1`. -/
def execAddZxNxNyNo (s : State) : Host.Outcome State Fault Refusal :=
  s.evaluate
    { zeroX := true, negateX := true, zeroY := false, negateY := true, useAdd := true, negateOutput := true }

/-- R158, `ADD.ZX.NX.ZY`, `111010`: `x2 <- ~0x0000 = 0xFFFF; y2 <- 0x0000; pre <- (x2 + y2) mod 65536; result <- pre`.
Closed form: `0xFFFF (= -1)`. -/
def execAddZxNxZy (s : State) : Host.Outcome State Fault Refusal :=
  s.evaluate
    { zeroX := true, negateX := true, zeroY := true, negateY := false, useAdd := true, negateOutput := false }

/-- R159, `ADD.ZX.NX.ZY.NO`, `111011`: `x2 <- ~0x0000 = 0xFFFF; y2 <- 0x0000; pre <- (x2 + y2) mod 65536; result <- ~pre`.
Closed form: `0x0000`. -/
def execAddZxNxZyNo (s : State) : Host.Outcome State Fault Refusal :=
  s.evaluate
    { zeroX := true, negateX := true, zeroY := true, negateY := false, useAdd := true, negateOutput := true }

/-- R160, `ADD.ZX.NX.ZY.NY`, `111110`: `x2 <- ~0x0000 = 0xFFFF; y2 <- ~0x0000 = 0xFFFF; pre <- (x2 + y2) mod 65536; result <- pre`.
Closed form: `0xFFFE (= -2)`. -/
def execAddZxNxZyNy (s : State) : Host.Outcome State Fault Refusal :=
  s.evaluate
    { zeroX := true, negateX := true, zeroY := true, negateY := true, useAdd := true, negateOutput := false }

/-- R161, `ADD.ZX.NX.ZY.NY.NO`, `111111`: `x2 <- ~0x0000 = 0xFFFF; y2 <- ~0x0000 = 0xFFFF; pre <- (x2 + y2) mod 65536; result <- ~pre`.
Closed form: `0x0001`. -/
def execAddZxNxZyNyNo (s : State) : Host.Outcome State Fault Refusal :=
  s.evaluate
    { zeroX := true, negateX := true, zeroY := true, negateY := true, useAdd := true, negateOutput := true }

end Sys2Proof.Machine
end

