-- ==== Sys2Proof/Machine/AndFamily.lean ====
section
/-!
DEFINITION. The 32 AND-family control words, useAdd = 0 (43_ctl_and.md R170 to R201).
Each meaning is one settled evaluation with the fields its rule's "Encoding" sentence lists, under 41_alu.md R116; its
docstring quotes the rule's pseudocode and closed form. None faults or is refused (60_exceptions.md R210).
-/

namespace Sys2Proof.Machine

/-- R170, `AND`, `000000`: `x2 <- x; y2 <- y; pre <- x2 & y2; result <- pre`.
Closed form: `x & y`. -/
def execAnd (s : State) : Host.Outcome State Fault Refusal :=
  s.evaluate
    { zeroX := false, negateX := false, zeroY := false, negateY := false, useAdd := false, negateOutput := false }

/-- R171, `AND.NO`, `000001`: `x2 <- x; y2 <- y; pre <- x2 & y2; result <- ~pre`.
Closed form: `~(x & y) (= ~x | ~y)`. -/
def execAndNo (s : State) : Host.Outcome State Fault Refusal :=
  s.evaluate
    { zeroX := false, negateX := false, zeroY := false, negateY := false, useAdd := false, negateOutput := true }

/-- R172, `AND.NY`, `000100`: `x2 <- x; y2 <- ~y; pre <- x2 & y2; result <- pre`.
Closed form: `x & ~y`. -/
def execAndNy (s : State) : Host.Outcome State Fault Refusal :=
  s.evaluate
    { zeroX := false, negateX := false, zeroY := false, negateY := true, useAdd := false, negateOutput := false }

/-- R173, `AND.NY.NO`, `000101`: `x2 <- x; y2 <- ~y; pre <- x2 & y2; result <- ~pre`.
Closed form: `~x | y (= ~(x & ~y))`. -/
def execAndNyNo (s : State) : Host.Outcome State Fault Refusal :=
  s.evaluate
    { zeroX := false, negateX := false, zeroY := false, negateY := true, useAdd := false, negateOutput := true }

/-- R174, `AND.ZY`, `001000`: `x2 <- x; y2 <- 0x0000; pre <- x2 & y2; result <- pre`.
Closed form: `0x0000`. -/
def execAndZy (s : State) : Host.Outcome State Fault Refusal :=
  s.evaluate
    { zeroX := false, negateX := false, zeroY := true, negateY := false, useAdd := false, negateOutput := false }

/-- R175, `AND.ZY.NO`, `001001`: `x2 <- x; y2 <- 0x0000; pre <- x2 & y2; result <- ~pre`.
Closed form: `0xFFFF`. -/
def execAndZyNo (s : State) : Host.Outcome State Fault Refusal :=
  s.evaluate
    { zeroX := false, negateX := false, zeroY := true, negateY := false, useAdd := false, negateOutput := true }

/-- R176, `AND.ZY.NY`, `001100`: `x2 <- x; y2 <- ~0x0000 = 0xFFFF; pre <- x2 & y2; result <- pre`.
Closed form: `x`. -/
def execAndZyNy (s : State) : Host.Outcome State Fault Refusal :=
  s.evaluate
    { zeroX := false, negateX := false, zeroY := true, negateY := true, useAdd := false, negateOutput := false }

/-- R177, `AND.ZY.NY.NO`, `001101`: `x2 <- x; y2 <- ~0x0000 = 0xFFFF; pre <- x2 & y2; result <- ~pre`.
Closed form: `~x`. -/
def execAndZyNyNo (s : State) : Host.Outcome State Fault Refusal :=
  s.evaluate
    { zeroX := false, negateX := false, zeroY := true, negateY := true, useAdd := false, negateOutput := true }

/-- R178, `AND.NX`, `010000`: `x2 <- ~x; y2 <- y; pre <- x2 & y2; result <- pre`.
Closed form: `~x & y`. -/
def execAndNx (s : State) : Host.Outcome State Fault Refusal :=
  s.evaluate
    { zeroX := false, negateX := true, zeroY := false, negateY := false, useAdd := false, negateOutput := false }

/-- R179, `AND.NX.NO`, `010001`: `x2 <- ~x; y2 <- y; pre <- x2 & y2; result <- ~pre`.
Closed form: `x | ~y (= ~(~x & y))`. -/
def execAndNxNo (s : State) : Host.Outcome State Fault Refusal :=
  s.evaluate
    { zeroX := false, negateX := true, zeroY := false, negateY := false, useAdd := false, negateOutput := true }

/-- R180, `AND.NX.NY`, `010100`: `x2 <- ~x; y2 <- ~y; pre <- x2 & y2; result <- pre`.
Closed form: `~x & ~y (= ~(x | y))`. -/
def execAndNxNy (s : State) : Host.Outcome State Fault Refusal :=
  s.evaluate
    { zeroX := false, negateX := true, zeroY := false, negateY := true, useAdd := false, negateOutput := false }

/-- R181, `AND.NX.NY.NO`, `010101`: `x2 <- ~x; y2 <- ~y; pre <- x2 & y2; result <- ~pre`.
Closed form: `x | y`. -/
def execAndNxNyNo (s : State) : Host.Outcome State Fault Refusal :=
  s.evaluate
    { zeroX := false, negateX := true, zeroY := false, negateY := true, useAdd := false, negateOutput := true }

/-- R182, `AND.NX.ZY`, `011000`: `x2 <- ~x; y2 <- 0x0000; pre <- x2 & y2; result <- pre`.
Closed form: `0x0000`. -/
def execAndNxZy (s : State) : Host.Outcome State Fault Refusal :=
  s.evaluate
    { zeroX := false, negateX := true, zeroY := true, negateY := false, useAdd := false, negateOutput := false }

/-- R183, `AND.NX.ZY.NO`, `011001`: `x2 <- ~x; y2 <- 0x0000; pre <- x2 & y2; result <- ~pre`.
Closed form: `0xFFFF`. -/
def execAndNxZyNo (s : State) : Host.Outcome State Fault Refusal :=
  s.evaluate
    { zeroX := false, negateX := true, zeroY := true, negateY := false, useAdd := false, negateOutput := true }

/-- R184, `AND.NX.ZY.NY`, `011100`: `x2 <- ~x; y2 <- ~0x0000 = 0xFFFF; pre <- x2 & y2; result <- pre`.
Closed form: `~x`. -/
def execAndNxZyNy (s : State) : Host.Outcome State Fault Refusal :=
  s.evaluate
    { zeroX := false, negateX := true, zeroY := true, negateY := true, useAdd := false, negateOutput := false }

/-- R185, `AND.NX.ZY.NY.NO`, `011101`: `x2 <- ~x; y2 <- ~0x0000 = 0xFFFF; pre <- x2 & y2; result <- ~pre`.
Closed form: `x`. -/
def execAndNxZyNyNo (s : State) : Host.Outcome State Fault Refusal :=
  s.evaluate
    { zeroX := false, negateX := true, zeroY := true, negateY := true, useAdd := false, negateOutput := true }

/-- R186, `AND.ZX`, `100000`: `x2 <- 0x0000; y2 <- y; pre <- x2 & y2; result <- pre`.
Closed form: `0x0000`. -/
def execAndZx (s : State) : Host.Outcome State Fault Refusal :=
  s.evaluate
    { zeroX := true, negateX := false, zeroY := false, negateY := false, useAdd := false, negateOutput := false }

/-- R187, `AND.ZX.NO`, `100001`: `x2 <- 0x0000; y2 <- y; pre <- x2 & y2; result <- ~pre`.
Closed form: `0xFFFF`. -/
def execAndZxNo (s : State) : Host.Outcome State Fault Refusal :=
  s.evaluate
    { zeroX := true, negateX := false, zeroY := false, negateY := false, useAdd := false, negateOutput := true }

/-- R188, `AND.ZX.NY`, `100100`: `x2 <- 0x0000; y2 <- ~y; pre <- x2 & y2; result <- pre`.
Closed form: `0x0000`. -/
def execAndZxNy (s : State) : Host.Outcome State Fault Refusal :=
  s.evaluate
    { zeroX := true, negateX := false, zeroY := false, negateY := true, useAdd := false, negateOutput := false }

/-- R189, `AND.ZX.NY.NO`, `100101`: `x2 <- 0x0000; y2 <- ~y; pre <- x2 & y2; result <- ~pre`.
Closed form: `0xFFFF`. -/
def execAndZxNyNo (s : State) : Host.Outcome State Fault Refusal :=
  s.evaluate
    { zeroX := true, negateX := false, zeroY := false, negateY := true, useAdd := false, negateOutput := true }

/-- R190, `AND.ZX.ZY`, `101000`: `x2 <- 0x0000; y2 <- 0x0000; pre <- x2 & y2; result <- pre`.
Closed form: `0x0000`. -/
def execAndZxZy (s : State) : Host.Outcome State Fault Refusal :=
  s.evaluate
    { zeroX := true, negateX := false, zeroY := true, negateY := false, useAdd := false, negateOutput := false }

/-- R191, `AND.ZX.ZY.NO`, `101001`: `x2 <- 0x0000; y2 <- 0x0000; pre <- x2 & y2; result <- ~pre`.
Closed form: `0xFFFF`. -/
def execAndZxZyNo (s : State) : Host.Outcome State Fault Refusal :=
  s.evaluate
    { zeroX := true, negateX := false, zeroY := true, negateY := false, useAdd := false, negateOutput := true }

/-- R192, `AND.ZX.ZY.NY`, `101100`: `x2 <- 0x0000; y2 <- ~0x0000 = 0xFFFF; pre <- x2 & y2; result <- pre`.
Closed form: `0x0000`. -/
def execAndZxZyNy (s : State) : Host.Outcome State Fault Refusal :=
  s.evaluate
    { zeroX := true, negateX := false, zeroY := true, negateY := true, useAdd := false, negateOutput := false }

/-- R193, `AND.ZX.ZY.NY.NO`, `101101`: `x2 <- 0x0000; y2 <- ~0x0000 = 0xFFFF; pre <- x2 & y2; result <- ~pre`.
Closed form: `0xFFFF`. -/
def execAndZxZyNyNo (s : State) : Host.Outcome State Fault Refusal :=
  s.evaluate
    { zeroX := true, negateX := false, zeroY := true, negateY := true, useAdd := false, negateOutput := true }

/-- R194, `AND.ZX.NX`, `110000`: `x2 <- ~0x0000 = 0xFFFF; y2 <- y; pre <- x2 & y2; result <- pre`.
Closed form: `y`. -/
def execAndZxNx (s : State) : Host.Outcome State Fault Refusal :=
  s.evaluate
    { zeroX := true, negateX := true, zeroY := false, negateY := false, useAdd := false, negateOutput := false }

/-- R195, `AND.ZX.NX.NO`, `110001`: `x2 <- ~0x0000 = 0xFFFF; y2 <- y; pre <- x2 & y2; result <- ~pre`.
Closed form: `~y`. -/
def execAndZxNxNo (s : State) : Host.Outcome State Fault Refusal :=
  s.evaluate
    { zeroX := true, negateX := true, zeroY := false, negateY := false, useAdd := false, negateOutput := true }

/-- R196, `AND.ZX.NX.NY`, `110100`: `x2 <- ~0x0000 = 0xFFFF; y2 <- ~y; pre <- x2 & y2; result <- pre`.
Closed form: `~y`. -/
def execAndZxNxNy (s : State) : Host.Outcome State Fault Refusal :=
  s.evaluate
    { zeroX := true, negateX := true, zeroY := false, negateY := true, useAdd := false, negateOutput := false }

/-- R197, `AND.ZX.NX.NY.NO`, `110101`: `x2 <- ~0x0000 = 0xFFFF; y2 <- ~y; pre <- x2 & y2; result <- ~pre`.
Closed form: `y`. -/
def execAndZxNxNyNo (s : State) : Host.Outcome State Fault Refusal :=
  s.evaluate
    { zeroX := true, negateX := true, zeroY := false, negateY := true, useAdd := false, negateOutput := true }

/-- R198, `AND.ZX.NX.ZY`, `111000`: `x2 <- ~0x0000 = 0xFFFF; y2 <- 0x0000; pre <- x2 & y2; result <- pre`.
Closed form: `0x0000`. -/
def execAndZxNxZy (s : State) : Host.Outcome State Fault Refusal :=
  s.evaluate
    { zeroX := true, negateX := true, zeroY := true, negateY := false, useAdd := false, negateOutput := false }

/-- R199, `AND.ZX.NX.ZY.NO`, `111001`: `x2 <- ~0x0000 = 0xFFFF; y2 <- 0x0000; pre <- x2 & y2; result <- ~pre`.
Closed form: `0xFFFF`. -/
def execAndZxNxZyNo (s : State) : Host.Outcome State Fault Refusal :=
  s.evaluate
    { zeroX := true, negateX := true, zeroY := true, negateY := false, useAdd := false, negateOutput := true }

/-- R200, `AND.ZX.NX.ZY.NY`, `111100`: `x2 <- ~0x0000 = 0xFFFF; y2 <- ~0x0000 = 0xFFFF; pre <- x2 & y2; result <- pre`.
Closed form: `0xFFFF`. -/
def execAndZxNxZyNy (s : State) : Host.Outcome State Fault Refusal :=
  s.evaluate
    { zeroX := true, negateX := true, zeroY := true, negateY := true, useAdd := false, negateOutput := false }

/-- R201, `AND.ZX.NX.ZY.NY.NO`, `111101`: `x2 <- ~0x0000 = 0xFFFF; y2 <- ~0x0000 = 0xFFFF; pre <- x2 & y2; result <- ~pre`.
Closed form: `0x0000`. -/
def execAndZxNxZyNyNo (s : State) : Host.Outcome State Fault Refusal :=
  s.evaluate
    { zeroX := true, negateX := true, zeroY := true, negateY := true, useAdd := false, negateOutput := true }

end Sys2Proof.Machine
end

