-- ==== Sys2Proof/Machine/Dispatch.lean ====
section
/-!
DEFINITION. One arm per instruction, each a direct call of its meaning; no instruction is rejected.
-/

namespace Sys2Proof.Machine

open Sys2Proof

def exec (i : Instr) (s : State) : Host.Outcome State Fault Refusal :=
  match i with
  | .and => Sys2Proof.Machine.execAnd s
  | .andNo => Sys2Proof.Machine.execAndNo s
  | .add => Sys2Proof.Machine.execAdd s
  | .addNo => Sys2Proof.Machine.execAddNo s
  | .andNy => Sys2Proof.Machine.execAndNy s
  | .andNyNo => Sys2Proof.Machine.execAndNyNo s
  | .addNy => Sys2Proof.Machine.execAddNy s
  | .addNyNo => Sys2Proof.Machine.execAddNyNo s
  | .andZy => Sys2Proof.Machine.execAndZy s
  | .andZyNo => Sys2Proof.Machine.execAndZyNo s
  | .addZy => Sys2Proof.Machine.execAddZy s
  | .addZyNo => Sys2Proof.Machine.execAddZyNo s
  | .andZyNy => Sys2Proof.Machine.execAndZyNy s
  | .andZyNyNo => Sys2Proof.Machine.execAndZyNyNo s
  | .addZyNy => Sys2Proof.Machine.execAddZyNy s
  | .addZyNyNo => Sys2Proof.Machine.execAddZyNyNo s
  | .andNx => Sys2Proof.Machine.execAndNx s
  | .andNxNo => Sys2Proof.Machine.execAndNxNo s
  | .addNx => Sys2Proof.Machine.execAddNx s
  | .addNxNo => Sys2Proof.Machine.execAddNxNo s
  | .andNxNy => Sys2Proof.Machine.execAndNxNy s
  | .andNxNyNo => Sys2Proof.Machine.execAndNxNyNo s
  | .addNxNy => Sys2Proof.Machine.execAddNxNy s
  | .addNxNyNo => Sys2Proof.Machine.execAddNxNyNo s
  | .andNxZy => Sys2Proof.Machine.execAndNxZy s
  | .andNxZyNo => Sys2Proof.Machine.execAndNxZyNo s
  | .addNxZy => Sys2Proof.Machine.execAddNxZy s
  | .addNxZyNo => Sys2Proof.Machine.execAddNxZyNo s
  | .andNxZyNy => Sys2Proof.Machine.execAndNxZyNy s
  | .andNxZyNyNo => Sys2Proof.Machine.execAndNxZyNyNo s
  | .addNxZyNy => Sys2Proof.Machine.execAddNxZyNy s
  | .addNxZyNyNo => Sys2Proof.Machine.execAddNxZyNyNo s
  | .andZx => Sys2Proof.Machine.execAndZx s
  | .andZxNo => Sys2Proof.Machine.execAndZxNo s
  | .addZx => Sys2Proof.Machine.execAddZx s
  | .addZxNo => Sys2Proof.Machine.execAddZxNo s
  | .andZxNy => Sys2Proof.Machine.execAndZxNy s
  | .andZxNyNo => Sys2Proof.Machine.execAndZxNyNo s
  | .addZxNy => Sys2Proof.Machine.execAddZxNy s
  | .addZxNyNo => Sys2Proof.Machine.execAddZxNyNo s
  | .andZxZy => Sys2Proof.Machine.execAndZxZy s
  | .andZxZyNo => Sys2Proof.Machine.execAndZxZyNo s
  | .addZxZy => Sys2Proof.Machine.execAddZxZy s
  | .addZxZyNo => Sys2Proof.Machine.execAddZxZyNo s
  | .andZxZyNy => Sys2Proof.Machine.execAndZxZyNy s
  | .andZxZyNyNo => Sys2Proof.Machine.execAndZxZyNyNo s
  | .addZxZyNy => Sys2Proof.Machine.execAddZxZyNy s
  | .addZxZyNyNo => Sys2Proof.Machine.execAddZxZyNyNo s
  | .andZxNx => Sys2Proof.Machine.execAndZxNx s
  | .andZxNxNo => Sys2Proof.Machine.execAndZxNxNo s
  | .addZxNx => Sys2Proof.Machine.execAddZxNx s
  | .addZxNxNo => Sys2Proof.Machine.execAddZxNxNo s
  | .andZxNxNy => Sys2Proof.Machine.execAndZxNxNy s
  | .andZxNxNyNo => Sys2Proof.Machine.execAndZxNxNyNo s
  | .addZxNxNy => Sys2Proof.Machine.execAddZxNxNy s
  | .addZxNxNyNo => Sys2Proof.Machine.execAddZxNxNyNo s
  | .andZxNxZy => Sys2Proof.Machine.execAndZxNxZy s
  | .andZxNxZyNo => Sys2Proof.Machine.execAndZxNxZyNo s
  | .addZxNxZy => Sys2Proof.Machine.execAddZxNxZy s
  | .addZxNxZyNo => Sys2Proof.Machine.execAddZxNxZyNo s
  | .andZxNxZyNy => Sys2Proof.Machine.execAndZxNxZyNy s
  | .andZxNxZyNyNo => Sys2Proof.Machine.execAndZxNxZyNyNo s
  | .addZxNxZyNy => Sys2Proof.Machine.execAddZxNxZyNy s
  | .addZxNxZyNyNo => Sys2Proof.Machine.execAddZxNxZyNyNo s

end Sys2Proof.Machine
end

