-- ==== Sys2Proof/Machine/Present.lean ====
section
/-!
DEFINITION. What the driver does from outside, between steps: presenting levels on the input ports of the ALU or of a
stand-alone sub-block (70_reset_and_hazards.md R243, R244; 10_state.md R31). A change of any input bit opens that block's
settling window; the same levels again change nothing (log 13). A level that is neither 0 nor 1, or a wrong number of
wires, is refused by name (log 9, log 10).
-/

namespace Sys2Proof.Machine

/-- R44, R244: "after any input bit changes, the outputs are unspecified until all inputs have been stable for `T_pd`". -/
def State.presentAlu (s : State) (x y : Word) (c : Control) : State :=
  if x = s.x ∧ y = s.y ∧ c = s.control then s
  else { s.unsettleOutputs with x := x, y := y, control := c, settling := Config.tPd, ticks := s.ticks + 1 }

/-- R80, R244: new levels at the stand-alone Zeroer. -/
def State.presentZeroer (s : State) (enable : Bool) (input : Word) : State :=
  if enable = s.zeroerBlock.enable ∧ input = s.zeroerBlock.input then s
  else
    { s with
      zeroerBlock :=
        { enable := enable, input := input, output := Config.unsettledWord .zeroerOutput s.ticks,
          settling := Config.tPd }
      ticks := s.ticks + 1 }

/-- R83, R244: new levels at the stand-alone Inverter. -/
def State.presentInverter (s : State) (enable : Bool) (input : Word) : State :=
  if enable = s.inverterBlock.enable ∧ input = s.inverterBlock.input then s
  else
    { s with
      inverterBlock :=
        { enable := enable, input := input, output := Config.unsettledWord .inverterOutput s.ticks,
          settling := Config.tPd }
      ticks := s.ticks + 1 }

/-- R87, R244: new levels at the stand-alone Adder. -/
def State.presentAdder (s : State) (a b : Word) : State :=
  if a = s.adderBlock.a ∧ b = s.adderBlock.b then s
  else
    { s with
      adderBlock := { a := a, b := b, sum := Config.unsettledWord .adderSum s.ticks, settling := Config.tPd }
      ticks := s.ticks + 1 }

/-- R93, R244: new levels at the Incrementer. -/
def State.presentIncrementer (s : State) (a : Word) : State :=
  if a = s.incrementerBlock.a then s
  else
    { s with
      incrementerBlock :=
        { a := a, output := Config.unsettledWord .incrementerOutput s.ticks, settling := Config.tPd }
      ticks := s.ticks + 1 }

/-- R97, R244: new levels at the stand-alone Comparator. -/
def State.presentComparator (s : State) (a : Word) : State :=
  if a = s.comparatorBlock.a then s
  else
    { s with
      comparatorBlock :=
        { a := a, zero := Config.unsettledBit .comparatorZero s.ticks,
          negative := Config.unsettledBit .comparatorNegative s.ticks, settling := Config.tPd }
      ticks := s.ticks + 1 }

/-- R31, R212: the word on a port is used if its levels are those of a word, and refused by name otherwise. -/
def withPort (w : Nat) (levels : List Level) (use : BitVec w → Host.Outcome State Fault Refusal) :
    Host.Outcome State Fault Refusal :=
  match readPort w levels with
  | .ok v => use v
  | .error r => .refused r

/-- R22, R31, R243: the driver presents levels on all three input ports of the ALU. -/
def State.drive (s : State) (p : Stimulus) : Host.Outcome State Fault Refusal :=
  withPort 16 p.x fun x => withPort 16 p.y fun y => withPort 6 p.control fun c => .next (s.presentAlu x y c)

/-- R24, R31: the driver presents levels on the ports of the stand-alone Zeroer. -/
def State.driveZeroer (s : State) (enable input : List Level) : Host.Outcome State Fault Refusal :=
  withPort 1 enable fun e => withPort 16 input fun v => .next (s.presentZeroer (e.getLsbD 0) v)

/-- R24, R31: the driver presents levels on the ports of the stand-alone Inverter. -/
def State.driveInverter (s : State) (enable input : List Level) : Host.Outcome State Fault Refusal :=
  withPort 1 enable fun e => withPort 16 input fun v => .next (s.presentInverter (e.getLsbD 0) v)

/-- R24, R31: the driver presents levels on the ports of the stand-alone Adder. -/
def State.driveAdder (s : State) (a b : List Level) : Host.Outcome State Fault Refusal :=
  withPort 16 a fun va => withPort 16 b fun vb => .next (s.presentAdder va vb)

/-- R24, R31: the driver presents levels on the port of the Incrementer. -/
def State.driveIncrementer (s : State) (a : List Level) : Host.Outcome State Fault Refusal :=
  withPort 16 a fun v => .next (s.presentIncrementer v)

/-- R24, R31: the driver presents levels on the port of the stand-alone Comparator. -/
def State.driveComparator (s : State) (a : List Level) : Host.Outcome State Fault Refusal :=
  withPort 16 a fun v => .next (s.presentComparator v)

end Sys2Proof.Machine
end

