-- ==== Sys2Proof/Machine/Step.lean ====
section
/-!
DEFINITION. The step of the machine, one unit of time with the input ports held stable (log 1).
-/

namespace Sys2Proof.Machine

/-- One unit of time. If it completes the ALU's settling window, or the window was already closed, the control word on
the port drives the outputs (R241, R244: "once settled they equal `ALU(x, y, control)` for the stable inputs and keep
that value while the inputs stay stable"); otherwise they stay unspecified. -/
def step (s : State) : Host.Outcome State Fault Refusal :=
  if s.settling - 1 = 0 then exec s.fetch s.passTime else .next s.glitch

/-- `s` with the row's control word, its low six bits, on the port `control` and the settling window closed: the driver
has presented it and waited `T_pd` (R243; log 1, log 14), so that the very next step runs it. -/
def State.withFetchWord (s : State) (_nbits w : Nat) : State := s.presentSettledControl (BitVec.ofNat 6 w)

end Sys2Proof.Machine
end

