-- ==== Sys2Proof/Safety.lean ====
section
/-!
DEFINITION. The terms the statements use: what the outputs of the ALU show, what a rule about one control word says, when
a block has settled, and the invariant that ties settled outputs to the inputs.
-/

namespace Sys2Proof

open Sys2Proof.Machine

/-- R115: `s` with the three outputs of the ALU showing `r` and its flags, `zero = (r == 0x0000)` and `negative = r[15]`,
and everything else as it was. -/
def showing (r : Word) (s : State) : State :=
  { s with result := r, zero := decide (r = 0x0000#16), negative := r.getLsbD 15 }

/-- The instruction completes in every state: its next state shows `f x y` and its flags, and nothing else changes. -/
def Computes (i : Instr) (f : Word → Word → Word) : Prop :=
  ∀ s : State, exec i s = .next (showing (f s.x s.y) s)

/-- A rule of 42_ctl_add.md or 43_ctl_and.md about one control word: its encoding, and that the instruction computes every
form of the result the rule gives (the pseudocode's stages put together, the closed form, the closed form's second
spelling), with the flags of R115, no exception and no other effect. -/
def WordRule (i : Instr) (control : Control) (forms : List (Word → Word → Word)) : Prop :=
  encode i = control ∧ decode control = i ∧ ∀ f ∈ forms, Computes i f

/-- R124: the coefficients (p, q) of a conditioned operand `p * v + q` for its zero and negate fields. -/
def linearCoefficients : Bool → Bool → Int × Int
  | false, false => (1, 0)
  | false, true => (-1, -1)
  | true, false => (0, 0)
  | true, true => (0, -1)

/-- R124: the closed form of an add-family word, an exact integer of the operands read unsigned, reduced mod 65536 at the
end. -/
def linearForm (c : Control) (x y : Word) : Word :=
  let p := linearCoefficients (c.getLsbD 5) (c.getLsbD 4)
  let q := linearCoefficients (c.getLsbD 3) (c.getLsbD 2)
  let pre := p.1 * x.toNat + q.1 * y.toNat + (p.2 + q.2)
  BitVec.ofInt 16 (if c.getLsbD 0 then -pre - 1 else pre)

/-- R70: the classes of two or more control words that compute the same function, as the rule's table lists them. -/
def aliasClasses : List (List Instr) :=
  [ [.andZy, .andNxZy, .andZx, .andZxNy, .andZxZy, .addZxZy, .andZxZyNy, .addZxZyNyNo, .andZxNxZy, .addZxNxZyNo,
      .andZxNxZyNyNo],
    [.andZyNo, .andNxZyNo, .andZxNo, .andZxNyNo, .andZxZyNo, .addZxZyNo, .andZxZyNyNo, .addZxZyNy, .andZxNxZyNo,
      .addZxNxZy, .andZxNxZyNy],
    [.addZy, .andZyNy, .addNxZyNo, .andNxZyNyNo],
    [.addZyNo, .andZyNyNo, .addNxZy, .andNxZyNy],
    [.addZx, .addZxNyNo, .andZxNx, .andZxNxNyNo],
    [.addZxNo, .addZxNy, .andZxNxNo, .andZxNxNy] ]

/-- The input ports of the ALU are the same in both states. -/
def SameInputs (s t : State) : Prop := s.x = t.x ∧ s.y = t.y ∧ s.control = t.control

/-- The ports of the stand-alone sub-blocks, outputs included, are the same in both states. -/
def SameBlocks (s t : State) : Prop :=
  s.zeroerBlock = t.zeroerBlock ∧ s.inverterBlock = t.inverterBlock ∧ s.adderBlock = t.adderBlock
    ∧ s.incrementerBlock = t.incrementerBlock ∧ s.comparatorBlock = t.comparatorBlock

/-- R116: the outputs of the ALU are those of the complete function of its inputs. -/
def OutputsAreAlu (s : State) : Prop := (s.result, s.zero, s.negative) = alu s.x s.y s.control

/-- R244, D3 (log 5): each output of the ALU shows its own free value of index `n`, so the flags are drawn apart from
`result` and may disagree with it. -/
def OutputsAreDraws (s : State) (n : Nat) : Prop :=
  s.result = Config.unsettledWord .result n ∧ s.zero = Config.unsettledBit .zero n ∧
    s.negative = Config.unsettledBit .negative n

/-- R241, R244: a settling window is never longer than `T_pd`, and a block whose window has closed shows its function of
the levels on its input ports. The ALU's clause. -/
def AluCoherent (s : State) : Prop :=
  s.settling ≤ Config.tPd ∧ (s.settling = 0 → OutputsAreAlu s)

/-- The same for the stand-alone sub-blocks (R80, R83, R87, R93, R97). -/
def BlocksCoherent (s : State) : Prop :=
  (s.zeroerBlock.settling ≤ Config.tPd
    ∧ (s.zeroerBlock.settling = 0 →
        s.zeroerBlock.output = if s.zeroerBlock.enable then 0x0000#16 else s.zeroerBlock.input))
  ∧ (s.inverterBlock.settling ≤ Config.tPd
    ∧ (s.inverterBlock.settling = 0 →
        s.inverterBlock.output = if s.inverterBlock.enable then ~~~s.inverterBlock.input else s.inverterBlock.input))
  ∧ (s.adderBlock.settling ≤ Config.tPd
    ∧ (s.adderBlock.settling = 0 → s.adderBlock.sum = s.adderBlock.a + s.adderBlock.b))
  ∧ (s.incrementerBlock.settling ≤ Config.tPd
    ∧ (s.incrementerBlock.settling = 0 → s.incrementerBlock.output = s.incrementerBlock.a + 1#16))
  ∧ (s.comparatorBlock.settling ≤ Config.tPd
    ∧ (s.comparatorBlock.settling = 0 →
        s.comparatorBlock.zero = decide (s.comparatorBlock.a = 0x0000#16)
          ∧ s.comparatorBlock.negative = s.comparatorBlock.a.getLsbD 15))

/-- The invariant of the machine: every block is coherent. -/
def Coherent (s : State) : Prop := AluCoherent s ∧ BlocksCoherent s

/-- A safe run: from `s` the machine takes `k` steps with no fault and no refusal. -/
def RunsSafely (s : State) (k : Nat) : Prop := ∃ t, core.run k s = .next t

end Sys2Proof
end

