-- ==== Sys2Proof/Certificates/Slice0/Obligations.lean ====
section
/-!
DEFINITION. The statements for the provers. Each docstring names the rules of spec/ a statement formalises, and, where it
rests on the spec's own derivation or on a choice of the model, says so and names the sentence or the log entry.
-/

open Sys2Proof Sys2Proof.Machine

/-- R80: "If `enable` is true, returns the all-zero word; otherwise returns `input` unchanged", and the ALU drives `enable`
from zeroX or zeroY. -/
def Obligations.ZeroerZeroesOrPasses : Prop :=
  (∀ (e : Bool) (v : Word), zeroer e v = if e then 0x0000#16 else v) ∧
  (∀ (f : Fields) (x : Word), conditionX f x = inverter f.negateX (zeroer f.zeroX x)) ∧
  (∀ (f : Fields) (y : Word), conditionY f y = inverter f.negateY (zeroer f.zeroY y))

/-- R83: the complement when enabled, `~a` being `0xFFFF - a`, the input otherwise; the ALU drives `enable` from negateX,
negateY or negateOutput. -/
def Obligations.InverterComplementsOrPasses : Prop :=
  (∀ (e : Bool) (v : Word), inverter e v = if e then ~~~v else v) ∧
  (∀ v : Word, inverter true v = 0xFFFF#16 - v) ∧
  (∀ v : Word, inverter false v = v) ∧
  (∀ (f : Fields) (x : Word), conditionX f x = inverter f.negateX (zeroer f.zeroX x)) ∧
  (∀ (f : Fields) (y : Word), conditionY f y = inverter f.negateY (zeroer f.zeroY y)) ∧
  (∀ (f : Fields) (x y : Word), aluResult f x y =
    inverter f.negateOutput (selectFunction f (conditionX f x) (conditionY f y)))

/-- R87: "Returns `(a + b) mod 2^16`, computed as an unsigned 16-bit ripple sum discarding any carry out of bit 15." -/
def Obligations.AdderSumsModulo65536 : Prop :=
  ∀ a b : Word, (adder a b).toNat = (a.toNat + b.toNat) % 65536 ∧ adder a b = a + b

/-- R93: "Returns `add(a, 1)`, i.e. `(a + 1) mod 2^16`." -/
def Obligations.IncrementerAddsOne : Prop :=
  ∀ a : Word, incrementer a = adder a 0x0001#16 ∧ (incrementer a).toNat = (a.toNat + 1) % 65536

/-- R97, R99: `zero <- (a == 0x0000)`, `negative <- a[15]`, which is 1 exactly when the two's-complement reading is
negative. -/
def Obligations.ComparatorReadsZeroAndSign : Prop :=
  ∀ a : Word, ((comparator a).zero = true ↔ a = 0x0000#16) ∧ (comparator a).negative = a.getLsbD 15 ∧
    ((comparator a).negative = true ↔ a.toInt < 0)

/-- R81, R84, R98: the bit-level forms of the Zeroer, the Inverter and the zero flag, which the spec marks as its own
derivations, and the Inverter's double inversion. -/
def Obligations.SubBlocksBitByBit : Prop :=
  (∀ (e : Bool) (v : Word) (k : Nat), (zeroer e v).getLsbD k = (v.getLsbD k && !e)) ∧
  (∀ (e : Bool) (v : Word) (k : Nat), k < 16 → (inverter e v).getLsbD k = (v.getLsbD k ^^ e)) ∧
  (∀ v : Word, inverter true (inverter true v) = v) ∧
  (∀ v : Word, (comparator v).zero = true ↔ ∀ k < 16, v.getLsbD k = false)

/-- R91's consequences, which the spec marks "[derived: from rule R87 ...]": the laws of the Adder. -/
def Obligations.AdderAlgebraicLaws : Prop :=
  (∀ a b : Word, adder a b = adder b a) ∧
  (∀ a b c : Word, adder (adder a b) c = adder a (adder b c)) ∧
  (∀ a : Word, adder a 0x0000#16 = a) ∧
  (∀ a : Word, adder a (~~~a) = 0xFFFF#16) ∧
  (∀ a : Word, adder a (adder (~~~a) 0x0001#16) = 0x0000#16)

/-- R89: the full-adder chain "computes exactly the sum of rule R87 for every input pair". The equations are marked
"[from general knowledge, not in source]" (D11; log 12). -/
def Obligations.RippleChainComputesTheSum : Prop :=
  ∀ (a b : Word) (k : Nat), k < 16 → (adder a b).getLsbD k = rippleBit a b k

/-- R90, which the spec marks "[derived: from rule R87]": when the 16-bit sum is exact, read unsigned and read signed. -/
def Obligations.AdderExactness : Prop :=
  ∀ a b : Word,
    ((adder a b).toNat = a.toNat + b.toNat ↔ a.toNat + b.toNat < 65536) ∧
    ((adder a b).toInt = a.toInt + b.toInt ↔ -32768 ≤ a.toInt + b.toInt ∧ a.toInt + b.toInt ≤ 32767)

/-- R100, its combinations marked "[derived: from rules R98 and R99]": the three flag pairs that occur and when, and the
one that never does. -/
def Obligations.FlagCombinations : Prop :=
  ∀ a : Word,
    ((comparator a).zero = true ∧ (comparator a).negative = false ↔ a = 0x0000#16) ∧
    ((comparator a).zero = false ∧ (comparator a).negative = true ↔ 0x8000 ≤ a.toNat) ∧
    ((comparator a).zero = false ∧ (comparator a).negative = false ↔ 0x0001 ≤ a.toNat ∧ a.toNat ≤ 0x7FFF) ∧
    ¬((comparator a).zero = true ∧ (comparator a).negative = true)

/-- R61: the layout of the fields of CTL6, the fields of each instruction in its control word, and what a 0 and a 1 in each
field mean at its stage. -/
def Obligations.ControlWordLayout : Prop :=
  (∀ c : Control, Fields.ofControl c =
    { zeroX := c.getLsbD 5, negateX := c.getLsbD 4, zeroY := c.getLsbD 3, negateY := c.getLsbD 2,
      useAdd := c.getLsbD 1, negateOutput := c.getLsbD 0 }) ∧
  (∀ i : Instr, Fields.ofControl (encode i) = i.fields) ∧
  (∀ (c : Control) (x : Word), conditionX (Fields.ofControl c) x =
    let x1 := if c.getLsbD 5 then 0x0000#16 else x
    if c.getLsbD 4 then ~~~x1 else x1) ∧
  (∀ (c : Control) (y : Word), conditionY (Fields.ofControl c) y =
    let y1 := if c.getLsbD 3 then 0x0000#16 else y
    if c.getLsbD 2 then ~~~y1 else y1) ∧
  (∀ (c : Control) (x2 y2 : Word), selectFunction (Fields.ofControl c) x2 y2 =
    if c.getLsbD 1 then x2 + y2 else x2 &&& y2) ∧
  (∀ (c : Control) (x y : Word), aluResult (Fields.ofControl c) x y =
    let pre := selectFunction (Fields.ofControl c) (conditionX (Fields.ofControl c) x) (conditionY (Fields.ofControl c) y)
    if c.getLsbD 0 then ~~~pre else pre)

/-- R62: the source's own vectors, written from bit 5 to bit 0, decode to the fields named beside them. -/
def Obligations.SourceControlWordsDecode : Prop :=
  decode 0b000010#6 = .add ∧ (Instr.add).fields = ⟨false, false, false, false, true, false⟩ ∧
  decode 0b100010#6 = .addZx ∧ (Instr.addZx).fields = ⟨true, false, false, false, true, false⟩ ∧
  decode 0b001010#6 = .addZy ∧ (Instr.addZy).fields = ⟨false, false, true, false, true, false⟩ ∧
  decode 0b100110#6 = .addZxNy ∧ (Instr.addZxNy).fields = ⟨true, false, false, true, true, false⟩ ∧
  decode 0b011010#6 = .addNxZy ∧ (Instr.addNxZy).fields = ⟨false, true, true, false, true, false⟩ ∧
  decode 0b101010#6 = .addZxZy ∧ (Instr.addZxZy).fields = ⟨true, false, true, false, true, false⟩ ∧
  decode 0b101001#6 = .andZxZyNo ∧ (Instr.andZxZyNo).fields = ⟨true, false, true, false, false, true⟩ ∧
  decode 0b000000#6 = .and ∧ (Instr.and).fields = ⟨false, false, false, false, false, false⟩

/-- The decoder and the encoder agree in both directions (R63, R67, R69): every instruction's control word decodes to it,
every one of the 64 words is the encoding of what it decodes to, and a number is read as an instruction exactly when it
is the value of that instruction's control word (so a value wider than the port is refused, R212). -/
def Obligations.DecodeAndEncodeAgree : Prop :=
  (∀ i : Instr, decode (encode i) = i) ∧
  (∀ c : Control, encode (decode c) = c) ∧
  (∀ (nbits w : Nat) (i : Instr), decodeTableWord nbits w = some i ↔ w = (encode i).toNat) ∧
  (∀ n : Nat, decodeNat n = .error .widthViolation ↔ 64 ≤ n)

/-- R68: the mnemonic is the base and "one suffix for each other field that is 1, in bit order"; "every control word has
exactly one mnemonic and every mnemonic one control word". -/
def Obligations.MnemonicsNameControlWords : Prop :=
  (∀ i : Instr, i.mnemonic =
    (if (encode i).getLsbD 1 then "ADD" else "AND") ++ (if (encode i).getLsbD 5 then ".ZX" else "")
      ++ (if (encode i).getLsbD 4 then ".NX" else "") ++ (if (encode i).getLsbD 3 then ".ZY" else "")
      ++ (if (encode i).getLsbD 2 then ".NY" else "") ++ (if (encode i).getLsbD 0 then ".NO" else "")) ∧
  (∀ i j : Instr, i.mnemonic = j.mnemonic → i = j)

/-- R111 to R115: the seven steps of the algorithm as they follow one another in every instruction: each invert stage reads
the zero stage's output, the function selector reads the two conditioned operands, the flags read the final result. -/
def Obligations.StagesFollowInOrder : Prop :=
  ∀ (i : Instr) (s : State), ∃ x1 x2 y1 y2 pre result : Word, ∃ t : State,
    x1 = zeroer (encode i |>.getLsbD 5) s.x ∧ x2 = inverter (encode i |>.getLsbD 4) x1 ∧
    y1 = zeroer (encode i |>.getLsbD 3) s.y ∧ y2 = inverter (encode i |>.getLsbD 2) y1 ∧
    pre = (if (encode i).getLsbD 1 then adder x2 y2 else x2 &&& y2) ∧
    result = inverter (encode i |>.getLsbD 0) pre ∧
    exec i s = .next t ∧ t.result = result ∧
    t.zero = decide (result = 0x0000#16) ∧ t.negative = result.getLsbD 15

/-- R116: every instruction, in every state, completes; its three outputs are `ALU(x, y, control)` of the ports x and y and
its own control word, and nothing else in the state changes. The same for what each of the 64 control words decodes to.
This is the completion statement and the frame of all 64 instructions. -/
def Obligations.EveryInstructionIsTheAluFunction : Prop :=
  (∀ (i : Instr) (s : State), exec i s =
    .next { s with
      result := (alu s.x s.y (encode i)).1
      zero := (alu s.x s.y (encode i)).2.1
      negative := (alu s.x s.y (encode i)).2.2 }) ∧
  (∀ (c : Control) (s : State), exec (decode c) s =
    .next { s with
      result := (alu s.x s.y c).1
      zero := (alu s.x s.y c).2.1
      negative := (alu s.x s.y c).2.2 })

/-- Totality (41_alu.md section 2, R118): "every one of the 64 bit combinations must yield a deterministic result per the
algorithm above", and no control word and no operand value raises anything or stalls. That a run of the machine never
stops rests on what a step is, which is the model's choice (log 1). -/
def Obligations.NoControlWordStops : Prop :=
  (∀ (c : Control) (s : State), ∃ t, exec (decode c) s = .next t ∧ (t.result, t.zero, t.negative) = alu s.x s.y c) ∧
  (∀ (s : State) (k : Nat), RunsSafely s k)

/-- Determinism (41_alu.md section 2, R119): the settled outputs depend on (x, y, control) and on nothing else: two states
with the same inputs, however much else differs, show the same outputs after an instruction, and after a step that ends
settled; and evaluating the same inputs twice gives bit-identical outputs. The clause about a step rests on the model's
choice of a step (log 1) and of the window as a count of steps (log 3). -/
def Obligations.SettledOutputsDependOnInputsOnly : Prop :=
  (∀ (i : Instr) (s t : State), s.x = t.x → s.y = t.y → ∃ s' t', exec i s = .next s' ∧ exec i t = .next t' ∧
    s'.result = t'.result ∧ s'.zero = t'.zero ∧ s'.negative = t'.negative) ∧
  (∀ s t : State, SameInputs s t → s.settling ≤ 1 → t.settling ≤ 1 → ∃ s' t', step s = .next s' ∧ step t = .next t' ∧
    s'.result = t'.result ∧ s'.zero = t'.zero ∧ s'.negative = t'.negative) ∧
  (∀ (i : Instr) (s : State), ∃ t, exec i s = .next t ∧ exec i t = .next t)

/-- R121: the source's prose examples: constant all-ones for `1010x1`, pass-through for `100010` and `001010`, complement
for `011010` and `100110`. -/
def Obligations.SourceProseExamples : Prop :=
  Computes (decode 0b101001#6) (fun _ _ => 0xFFFF#16) ∧ Computes (decode 0b101011#6) (fun _ _ => 0xFFFF#16) ∧
  Computes (decode 0b100010#6) (fun _ y => y) ∧ Computes (decode 0b001010#6) (fun x _ => x) ∧
  Computes (decode 0b011010#6) (fun x _ => ~~~x) ∧ Computes (decode 0b100110#6) (fun _ y => ~~~y)

/-- R65, R66, which the spec marks as derived from R111 to R114: the tables of what the field pairs select. -/
def Obligations.OperandAndFunctionTables : Prop :=
  ∀ (f : Fields) (x y : Word),
    (f.zeroX = false → f.negateX = false → conditionX f x = x) ∧
    (f.zeroX = false → f.negateX = true → conditionX f x = ~~~x) ∧
    (f.zeroX = true → f.negateX = false → conditionX f x = 0x0000#16) ∧
    (f.zeroX = true → f.negateX = true → conditionX f x = 0xFFFF#16) ∧
    (f.zeroY = false → f.negateY = false → conditionY f y = y) ∧
    (f.zeroY = false → f.negateY = true → conditionY f y = ~~~y) ∧
    (f.zeroY = true → f.negateY = false → conditionY f y = 0x0000#16) ∧
    (f.zeroY = true → f.negateY = true → conditionY f y = 0xFFFF#16) ∧
    (f.useAdd = true → selectFunction f x y = x + y) ∧
    (f.useAdd = false → selectFunction f x y = x &&& y) ∧
    (f.negateOutput = true → aluResult f x y = ~~~(selectFunction f (conditionX f x) (conditionY f y))) ∧
    (f.negateOutput = false → aluResult f x y = selectFunction f (conditionX f x) (conditionY f y))

/-- 42_ctl_add.md, the words whose result depends on x and on y (the rules from `ADD` to `ADD.NY.NO` and from `ADD.NX` to
`ADD.NX.NY.NO`).
Encoding, pseudocode and closed forms of each; the spec marks the closed forms "[derived: from 41_alu.md rules R116 and
R124]". -/
def Obligations.AddWordsOfBothOperands : Prop :=
  WordRule .add 0b000010#6 [fun x y => x + y] ∧
  WordRule .addNo 0b000011#6 [fun x y => ~~~(x + y), fun x y => -x - y - 1#16] ∧
  WordRule .addNy 0b000110#6 [fun x y => x + ~~~y, fun x y => x - y - 1#16, fun x y => ~~~(y - x)] ∧
  WordRule .addNyNo 0b000111#6 [fun x y => ~~~(x + ~~~y), fun x y => y - x] ∧
  WordRule .addNx 0b010010#6 [fun x y => ~~~x + y, fun x y => y - x - 1#16, fun x y => ~~~(x - y)] ∧
  WordRule .addNxNo 0b010011#6 [fun x y => ~~~(~~~x + y), fun x y => x - y] ∧
  WordRule .addNxNy 0b010110#6 [fun x y => ~~~x + ~~~y, fun x y => -x - y - 2#16] ∧
  WordRule .addNxNyNo 0b010111#6 [fun x y => ~~~(~~~x + ~~~y), fun x y => x + y + 1#16]

/-- 42_ctl_add.md, the words whose result depends on x only (from `ADD.ZY` to `ADD.ZY.NY.NO` and from `ADD.NX.ZY` to
`ADD.NX.ZY.NY.NO`): pass, complement, decrement, negate, increment.
Encoding, pseudocode and closed forms of each; the spec marks the closed forms "[derived: from 41_alu.md rules R116 and
R124]". -/
def Obligations.AddWordsOfX : Prop :=
  WordRule .addZy 0b001010#6 [fun x _ => x + 0x0000#16, fun x _ => x] ∧
  WordRule .addZyNo 0b001011#6 [fun x _ => ~~~(x + 0x0000#16), fun x _ => -x - 1#16, fun x _ => ~~~x] ∧
  WordRule .addZyNy 0b001110#6 [fun x _ => x + ~~~0x0000#16, fun x _ => x - 1#16] ∧
  WordRule .addZyNyNo 0b001111#6 [fun x _ => ~~~(x + ~~~0x0000#16), fun x _ => -x] ∧
  WordRule .addNxZy 0b011010#6 [fun x _ => ~~~x + 0x0000#16, fun x _ => -x - 1#16, fun x _ => ~~~x] ∧
  WordRule .addNxZyNo 0b011011#6 [fun x _ => ~~~(~~~x + 0x0000#16), fun x _ => x] ∧
  WordRule .addNxZyNy 0b011110#6 [fun x _ => ~~~x + ~~~0x0000#16, fun x _ => -x - 2#16] ∧
  WordRule .addNxZyNyNo 0b011111#6 [fun x _ => ~~~(~~~x + ~~~0x0000#16), fun x _ => x + 1#16]

/-- 42_ctl_add.md, the words whose result depends on y only (from `ADD.ZX` to `ADD.ZX.NY.NO` and from `ADD.ZX.NX` to
`ADD.ZX.NX.NY.NO`).
Encoding, pseudocode and closed forms of each; the spec marks the closed forms "[derived: from 41_alu.md rules R116 and
R124]". -/
def Obligations.AddWordsOfY : Prop :=
  WordRule .addZx 0b100010#6 [fun _ y => 0x0000#16 + y, fun _ y => y] ∧
  WordRule .addZxNo 0b100011#6 [fun _ y => ~~~(0x0000#16 + y), fun _ y => -y - 1#16, fun _ y => ~~~y] ∧
  WordRule .addZxNy 0b100110#6 [fun _ y => 0x0000#16 + ~~~y, fun _ y => -y - 1#16, fun _ y => ~~~y] ∧
  WordRule .addZxNyNo 0b100111#6 [fun _ y => ~~~(0x0000#16 + ~~~y), fun _ y => y] ∧
  WordRule .addZxNx 0b110010#6 [fun _ y => ~~~0x0000#16 + y, fun _ y => y - 1#16] ∧
  WordRule .addZxNxNo 0b110011#6 [fun _ y => ~~~(~~~0x0000#16 + y), fun _ y => -y] ∧
  WordRule .addZxNxNy 0b110110#6 [fun _ y => ~~~0x0000#16 + ~~~y, fun _ y => -y - 2#16] ∧
  WordRule .addZxNxNyNo 0b110111#6 [fun _ y => ~~~(~~~0x0000#16 + ~~~y), fun _ y => y + 1#16]

/-- 42_ctl_add.md, the words whose result is constant (from `ADD.ZX.ZY` to `ADD.ZX.ZY.NY.NO` and from `ADD.ZX.NX.ZY` to
`ADD.ZX.NX.ZY.NY.NO`), their flags constant with it.
Encoding, pseudocode and closed forms of each; the spec marks the closed forms "[derived: from 41_alu.md rules R116 and
R124]". -/
def Obligations.AddWordsOfNeither : Prop :=
  WordRule .addZxZy 0b101010#6 [fun _ _ => 0x0000#16 + 0x0000#16, fun _ _ => 0x0000#16] ∧
  WordRule .addZxZyNo 0b101011#6 [fun _ _ => ~~~(0x0000#16 + 0x0000#16), fun _ _ => 0xFFFF#16, fun _ _ => -1#16] ∧
  WordRule .addZxZyNy 0b101110#6 [fun _ _ => 0x0000#16 + ~~~0x0000#16, fun _ _ => 0xFFFF#16, fun _ _ => -1#16] ∧
  WordRule .addZxZyNyNo 0b101111#6 [fun _ _ => ~~~(0x0000#16 + ~~~0x0000#16), fun _ _ => 0x0000#16] ∧
  WordRule .addZxNxZy 0b111010#6 [fun _ _ => ~~~0x0000#16 + 0x0000#16, fun _ _ => 0xFFFF#16, fun _ _ => -1#16] ∧
  WordRule .addZxNxZyNo 0b111011#6 [fun _ _ => ~~~(~~~0x0000#16 + 0x0000#16), fun _ _ => 0x0000#16] ∧
  WordRule .addZxNxZyNy 0b111110#6 [fun _ _ => ~~~0x0000#16 + ~~~0x0000#16, fun _ _ => 0xFFFE#16, fun _ _ => -2#16] ∧
  WordRule .addZxNxZyNyNo 0b111111#6 [fun _ _ => ~~~(~~~0x0000#16 + ~~~0x0000#16), fun _ _ => 0x0001#16]

/-- 43_ctl_and.md, the words whose result depends on x and on y (from `AND` to `AND.NY.NO` and from `AND.NX` to
`AND.NX.NY.NO`).
Encoding, pseudocode and closed forms of each; the spec marks the closed forms "[derived: from 41_alu.md rules R116 and
R125]". -/
def Obligations.AndWordsOfBothOperands : Prop :=
  WordRule .and 0b000000#6 [fun x y => x &&& y] ∧
  WordRule .andNo 0b000001#6 [fun x y => ~~~(x &&& y), fun x y => ~~~x ||| ~~~y] ∧
  WordRule .andNy 0b000100#6 [fun x y => x &&& ~~~y] ∧
  WordRule .andNyNo 0b000101#6 [fun x y => ~~~(x &&& ~~~y), fun x y => ~~~x ||| y] ∧
  WordRule .andNx 0b010000#6 [fun x y => ~~~x &&& y] ∧
  WordRule .andNxNo 0b010001#6 [fun x y => ~~~(~~~x &&& y), fun x y => x ||| ~~~y] ∧
  WordRule .andNxNy 0b010100#6 [fun x y => ~~~x &&& ~~~y, fun x y => ~~~(x ||| y)] ∧
  WordRule .andNxNyNo 0b010101#6 [fun x y => ~~~(~~~x &&& ~~~y), fun x y => x ||| y]

/-- 43_ctl_and.md, the words whose result depends on one operand (`AND.ZY.NY`, `AND.ZY.NY.NO`, `AND.NX.ZY.NY`,
`AND.NX.ZY.NY.NO`, and from `AND.ZX.NX` to `AND.ZX.NX.NY.NO`).
Encoding, pseudocode and closed forms of each; the spec marks the closed forms "[derived: from 41_alu.md rules R116 and
R125]". -/
def Obligations.AndWordsOfOneOperand : Prop :=
  WordRule .andZyNy 0b001100#6 [fun x _ => x &&& ~~~0x0000#16, fun x _ => x] ∧
  WordRule .andZyNyNo 0b001101#6 [fun x _ => ~~~(x &&& ~~~0x0000#16), fun x _ => ~~~x] ∧
  WordRule .andNxZyNy 0b011100#6 [fun x _ => ~~~x &&& ~~~0x0000#16, fun x _ => ~~~x] ∧
  WordRule .andNxZyNyNo 0b011101#6 [fun x _ => ~~~(~~~x &&& ~~~0x0000#16), fun x _ => x] ∧
  WordRule .andZxNx 0b110000#6 [fun _ y => ~~~0x0000#16 &&& y, fun _ y => y] ∧
  WordRule .andZxNxNo 0b110001#6 [fun _ y => ~~~(~~~0x0000#16 &&& y), fun _ y => ~~~y] ∧
  WordRule .andZxNxNy 0b110100#6 [fun _ y => ~~~0x0000#16 &&& ~~~y, fun _ y => ~~~y] ∧
  WordRule .andZxNxNyNo 0b110101#6 [fun _ y => ~~~(~~~0x0000#16 &&& ~~~y), fun _ y => y]

/-- 43_ctl_and.md, the constant words with one operand zeroed and passed on as 0x0000 (`AND.ZY`, `AND.ZY.NO`, `AND.NX.ZY`,
`AND.NX.ZY.NO`, and from `AND.ZX` to `AND.ZX.NY.NO`).
Encoding, pseudocode and closed forms of each; the spec marks the closed forms "[derived: from 41_alu.md rules R116 and
R125]". -/
def Obligations.AndWordsOfNeitherOneZeroed : Prop :=
  WordRule .andZy 0b001000#6 [fun x _ => x &&& 0x0000#16, fun _ _ => 0x0000#16] ∧
  WordRule .andZyNo 0b001001#6 [fun x _ => ~~~(x &&& 0x0000#16), fun _ _ => 0xFFFF#16] ∧
  WordRule .andNxZy 0b011000#6 [fun x _ => ~~~x &&& 0x0000#16, fun _ _ => 0x0000#16] ∧
  WordRule .andNxZyNo 0b011001#6 [fun x _ => ~~~(~~~x &&& 0x0000#16), fun _ _ => 0xFFFF#16] ∧
  WordRule .andZx 0b100000#6 [fun _ y => 0x0000#16 &&& y, fun _ _ => 0x0000#16] ∧
  WordRule .andZxNo 0b100001#6 [fun _ y => ~~~(0x0000#16 &&& y), fun _ _ => 0xFFFF#16] ∧
  WordRule .andZxNy 0b100100#6 [fun _ y => 0x0000#16 &&& ~~~y, fun _ _ => 0x0000#16] ∧
  WordRule .andZxNyNo 0b100101#6 [fun _ y => ~~~(0x0000#16 &&& ~~~y), fun _ _ => 0xFFFF#16]

/-- 43_ctl_and.md, the constant words with both operands zeroed (from `AND.ZX.ZY` to `AND.ZX.ZY.NY.NO` and from
`AND.ZX.NX.ZY` to `AND.ZX.NX.ZY.NY.NO`).
Encoding, pseudocode and closed forms of each; the spec marks the closed forms "[derived: from 41_alu.md rules R116 and
R125]". -/
def Obligations.AndWordsOfNeitherBothZeroed : Prop :=
  WordRule .andZxZy 0b101000#6 [fun _ _ => 0x0000#16 &&& 0x0000#16, fun _ _ => 0x0000#16] ∧
  WordRule .andZxZyNo 0b101001#6 [fun _ _ => ~~~(0x0000#16 &&& 0x0000#16), fun _ _ => 0xFFFF#16] ∧
  WordRule .andZxZyNy 0b101100#6 [fun _ _ => 0x0000#16 &&& ~~~0x0000#16, fun _ _ => 0x0000#16] ∧
  WordRule .andZxZyNyNo 0b101101#6 [fun _ _ => ~~~(0x0000#16 &&& ~~~0x0000#16), fun _ _ => 0xFFFF#16] ∧
  WordRule .andZxNxZy 0b111000#6 [fun _ _ => ~~~0x0000#16 &&& 0x0000#16, fun _ _ => 0x0000#16] ∧
  WordRule .andZxNxZyNo 0b111001#6 [fun _ _ => ~~~(~~~0x0000#16 &&& 0x0000#16), fun _ _ => 0xFFFF#16] ∧
  WordRule .andZxNxZyNy 0b111100#6 [fun _ _ => ~~~0x0000#16 &&& ~~~0x0000#16, fun _ _ => 0xFFFF#16] ∧
  WordRule .andZxNxZyNyNo 0b111101#6 [fun _ _ => ~~~(~~~0x0000#16 &&& ~~~0x0000#16), fun _ _ => 0x0000#16]

/-- R124, which the spec marks "[derived: from rules R116 and R123]": every add-family word computes the linear form of its
fields, `cx * x + cy * y + k` mod 65536 with cx, cy in -1, 0, 1 and k in -2, -1, 0, 1. -/
def Obligations.AddFamilyIsLinear : Prop :=
  ∀ c : Control, c.getLsbD 1 = true →
    Computes (decode c) (linearForm c) ∧
    ∃ cx cy k : Int, (cx = -1 ∨ cx = 0 ∨ cx = 1) ∧ (cy = -1 ∨ cy = 0 ∨ cy = 1) ∧
      (k = -2 ∨ k = -1 ∨ k = 0 ∨ k = 1) ∧
      Computes (decode c) (fun x y => BitVec.ofInt 16 (cx * x.toNat + cy * y.toNat + k))

/-- R125, which the spec marks "[derived: from rules R116 and R123]": every AND-family word computes one function of
(x[i], y[i]), the same in every bit, and it is neither XOR nor its complement. -/
def Obligations.AndFamilyIsBitwise : Prop :=
  ∀ c : Control, c.getLsbD 1 = false →
    ∃ g : Bool → Bool → Bool, (∃ p q, g p q ≠ (p ^^ q)) ∧ (∃ p q, g p q ≠ !(p ^^ q)) ∧
      ∀ s : State, ∃ t, exec (decode c) s = .next t ∧
        ∀ k < 16, t.result.getLsbD k = g (s.x.getLsbD k) (s.y.getLsbD k)

/-- R70, which the spec marks "[derived: from rules R124 and R125 ...]": two instructions have the same effect in every
state exactly when they are the same or stand in one class of the table, and the 64 compute 32 distinct functions. -/
def Obligations.AliasClassesAreExact : Prop :=
  (∀ i j : Instr, (∀ s : State, exec i s = exec j s) ↔ i = j ∨ ∃ cls ∈ aliasClasses, i ∈ cls ∧ j ∈ cls) ∧
  (∃ reps : List Instr, reps.Nodup ∧ reps.length = 32 ∧ ∀ i : Instr, ∃! r : Instr, r ∈ reps ∧ ∀ s : State, exec r s = exec i s)

/-- 90_conflicts.md C6, marked "[derived: from rules R145 and R93]", and R95: the ALU's x + 1 (`011111`) and y + 1
(`110111`) agree with the Incrementer, which is a block of its own. -/
def Obligations.AluIncrementAgreesWithIncrementer : Prop :=
  Computes (decode 0b011111#6) (fun x _ => incrementer x) ∧ Computes (decode 0b110111#6) (fun _ y => incrementer y)

/-- A step whose end finds the ALU settled runs the instruction on the control port (R241, R244; the unit of time is the
model's, log 1). Around `exec` the step only lets one unit of time pass, and what that does is stated beside it. -/
def Obligations.StepRunsTheDecodedInstruction : Prop :=
  ∀ (i : Instr) (s : State), s.control = encode i → i.wellFormed = true → s.settling ≤ 1 →
    step s = exec i s.passTime ∧
    SameInputs s s.passTime ∧ s.passTime.settling = 0 ∧ s.passTime.ticks = s.ticks + 1 ∧
    s.passTime.result = s.result ∧ s.passTime.zero = s.zero ∧ s.passTime.negative = s.negative ∧
    s.passTime.zeroerBlock = tickZeroer s.ticks s.zeroerBlock ∧
    s.passTime.inverterBlock = tickInverter s.ticks s.inverterBlock ∧
    s.passTime.adderBlock = tickAdder s.ticks s.adderBlock ∧
    s.passTime.incrementerBlock = tickIncrementer s.ticks s.incrementerBlock ∧
    s.passTime.comparatorBlock = tickComparator s.ticks s.comparatorBlock

/-- A control word placed with `withFetchWord` is run by the very next step (log 1, log 14): that step answers a next state
whose outputs are `ALU(x, y, control)` for the ports x and y of the state it was placed in. -/
def Obligations.PlacedControlWordRunsNext : Prop :=
  ∀ (i : Instr) (s : State) (nbits : Nat), decodeTableWord nbits (encode i).toNat = some i ∧
    ∃ t, step (s.withFetchWord nbits (encode i).toNat) = .next t ∧ t.control = encode i ∧ t.x = s.x ∧ t.y = s.y ∧
      (t.result, t.zero, t.negative) = alu s.x s.y (encode i)

/-- Inside the window (R244) a step leaves the inputs as they are, uses up one unit of it, and shows at each output a free
value of that port's own, the flags drawn apart from the result (R244, U1, D3), at the index `ticks`, which advances by
one. The unit of time (log 1) and the form of a draw (log 5) are the model's choices; no draw has a known value, so this
holds for every value of them. -/
def Obligations.WindowStepsCountDown : Prop :=
  ∀ s : State, 1 < s.settling → ∃ t, step s = .next t ∧ SameInputs s t ∧ t.settling = s.settling - 1 ∧
    OutputsAreDraws t s.ticks ∧ t.ticks = s.ticks + 1

/-- R244, R246 (D3; log 1, log 3): "once settled they equal `ALU(x, y, control)` for the stable inputs and keep that value
while the inputs stay stable". From every state, after any number of steps, at least one, that covers what is left of
the window, the outputs are those of the ALU function, the flags those of the result, and the inputs are untouched. -/
def Obligations.StableInputsSettle : Prop :=
  ∀ (s : State) (k : Nat), 0 < k → s.settling ≤ k →
    ∃ t, core.run k s = .next t ∧ SameInputs s t ∧ t.settling = 0 ∧
      (t.result, t.zero, t.negative) = alu s.x s.y s.control ∧
      t.zero = decide (t.result = 0x0000#16) ∧ t.negative = t.result.getLsbD 15

/-- R44, R243, R245 (D3, D13, D19; log 1, log 3): whatever was presented before, once new inputs have been held for `T_pd`
the outputs are the ALU function of exactly those 38 bits. The premise rules out windows longer than `T_pd`, which no
run reaches (the statement that every step keeps coherence). -/
def Obligations.PresentedInputsAreEvaluated : Prop :=
  ∀ (s : State) (x y : Word) (c : Control), s.settling ≤ Config.tPd →
    ∃ t, core.run Config.tPd (s.presentAlu x y c) = .next t ∧ t.x = x ∧ t.y = y ∧ t.control = c ∧
      (t.result, t.zero, t.negative) = alu x y c

/-- A change of any input bit of the ALU opens its window for the whole of `T_pd` (R244), leaves the sub-blocks alone, and
shows at each output a free value of that port's own, the flags drawn apart from the result (the model's choice, log 5;
it holds for every value of the draws). Presenting the levels that are already there changes nothing (log 13). -/
def Obligations.PresentingOpensTheWindow : Prop :=
  (∀ (s : State) (x y : Word) (c : Control), ¬(x = s.x ∧ y = s.y ∧ c = s.control) →
    (s.presentAlu x y c).x = x ∧ (s.presentAlu x y c).y = y ∧ (s.presentAlu x y c).control = c ∧
    (s.presentAlu x y c).settling = Config.tPd ∧ SameBlocks s (s.presentAlu x y c) ∧
    OutputsAreDraws (s.presentAlu x y c) s.ticks ∧ (s.presentAlu x y c).ticks = s.ticks + 1) ∧
  (∀ s : State, s.presentAlu s.x s.y s.control = s)

/-- R9, R14, R31: the levels of a word's bits are read back as that word, and only they are. -/
def Obligations.PortReadsLogicLevels : Prop :=
  ∀ (w : Nat) (v : BitVec w) (levels : List Level), readPort w levels = .ok v ↔ levels = wordLevels v

/-- R31, R212 (D4, U4, U5; log 9, log 10): presented levels are taken when every port has its width and every level is a
logic level, and refused by name otherwise: a wrong width as a width violation, and, the widths being right, a level
that is neither 0 nor 1 as such. -/
def Obligations.PresentedLevelsAreChecked : Prop :=
  (∀ (s : State) (x y : Word) (c : Control),
    s.drive { x := wordLevels x, y := wordLevels y, control := wordLevels c } = .next (s.presentAlu x y c)) ∧
  (∀ (s : State) (p : Stimulus), p.wellFormed = true ↔ ∃ t, s.drive p = .next t) ∧
  (∀ (s : State) (p : Stimulus), p.x.length = 16 → p.y.length = 16 → p.control.length = 6 → p.wellFormed = false →
    s.drive p = .refused .nonLogicLevel) ∧
  (∀ (s : State) (p : Stimulus), (∀ l ∈ p.x ++ p.y ++ p.control, l.isLogic = true) →
    ¬(p.x.length = 16 ∧ p.y.length = 16 ∧ p.control.length = 6) → s.drive p = .refused .widthViolation)

/-- R31, R212 for the stand-alone sub-blocks (D4, U4, U5; log 9, log 10): the levels of words are taken; any levels are
taken exactly when they are well formed for the block's ports, and refused by one of the two names otherwise. -/
def Obligations.SubBlockLevelsAreChecked : Prop :=
  (∀ (s : State) (e : Bool) (v a b : Word),
    s.driveZeroer (wordLevels (BitVec.ofBool e)) (wordLevels v) = .next (s.presentZeroer e v) ∧
    s.driveInverter (wordLevels (BitVec.ofBool e)) (wordLevels v) = .next (s.presentInverter e v) ∧
    s.driveAdder (wordLevels a) (wordLevels b) = .next (s.presentAdder a b) ∧
    s.driveIncrementer (wordLevels a) = .next (s.presentIncrementer a) ∧
    s.driveComparator (wordLevels a) = .next (s.presentComparator a)) ∧
  (∀ (s : State) (e v a b : List Level),
    ∀ attempt ∈
      [((portWellFormed 1 e && portWellFormed 16 v), s.driveZeroer e v),
       ((portWellFormed 1 e && portWellFormed 16 v), s.driveInverter e v),
       ((portWellFormed 16 a && portWellFormed 16 b), s.driveAdder a b),
       (portWellFormed 16 a, s.driveIncrementer a),
       (portWellFormed 16 a, s.driveComparator a)],
      (attempt.1 = true ∧ ∃ t, attempt.2 = .next t) ∨
      (attempt.1 = false ∧ (attempt.2 = .refused .nonLogicLevel ∨ attempt.2 = .refused .widthViolation)))

/-- R244 for the stand-alone sub-blocks (log 4, log 13): a change of any input bit of a block puts the new levels on its
ports, opens its window for the whole of `T_pd`, and shows at each of its outputs a free value of that port's own (the
model's choice, log 5; it holds for every value of the draws); presenting the levels that are already there changes
nothing. -/
def Obligations.PresentingOpensTheBlocksWindows : Prop :=
  ∀ (s : State) (e : Bool) (v a b : Word),
    (¬(e = s.zeroerBlock.enable ∧ v = s.zeroerBlock.input) →
      (s.presentZeroer e v).zeroerBlock.enable = e ∧ (s.presentZeroer e v).zeroerBlock.input = v ∧
      (s.presentZeroer e v).zeroerBlock.settling = Config.tPd ∧
      (s.presentZeroer e v).zeroerBlock.output = Config.unsettledWord .zeroerOutput s.ticks ∧
      (s.presentZeroer e v).ticks = s.ticks + 1) ∧
    (¬(e = s.inverterBlock.enable ∧ v = s.inverterBlock.input) →
      (s.presentInverter e v).inverterBlock.enable = e ∧ (s.presentInverter e v).inverterBlock.input = v ∧
      (s.presentInverter e v).inverterBlock.settling = Config.tPd ∧
      (s.presentInverter e v).inverterBlock.output = Config.unsettledWord .inverterOutput s.ticks ∧
      (s.presentInverter e v).ticks = s.ticks + 1) ∧
    (¬(a = s.adderBlock.a ∧ b = s.adderBlock.b) →
      (s.presentAdder a b).adderBlock.a = a ∧ (s.presentAdder a b).adderBlock.b = b ∧
      (s.presentAdder a b).adderBlock.settling = Config.tPd ∧
      (s.presentAdder a b).adderBlock.sum = Config.unsettledWord .adderSum s.ticks ∧
      (s.presentAdder a b).ticks = s.ticks + 1) ∧
    (a ≠ s.incrementerBlock.a →
      (s.presentIncrementer a).incrementerBlock.a = a ∧
      (s.presentIncrementer a).incrementerBlock.settling = Config.tPd ∧
      (s.presentIncrementer a).incrementerBlock.output = Config.unsettledWord .incrementerOutput s.ticks ∧
      (s.presentIncrementer a).ticks = s.ticks + 1) ∧
    (a ≠ s.comparatorBlock.a →
      (s.presentComparator a).comparatorBlock.a = a ∧ (s.presentComparator a).comparatorBlock.settling = Config.tPd ∧
      (s.presentComparator a).comparatorBlock.zero = Config.unsettledBit .comparatorZero s.ticks ∧
      (s.presentComparator a).comparatorBlock.negative = Config.unsettledBit .comparatorNegative s.ticks ∧
      (s.presentComparator a).ticks = s.ticks + 1) ∧
    s.presentZeroer s.zeroerBlock.enable s.zeroerBlock.input = s ∧
    s.presentInverter s.inverterBlock.enable s.inverterBlock.input = s ∧
    s.presentAdder s.adderBlock.a s.adderBlock.b = s ∧
    s.presentIncrementer s.incrementerBlock.a = s ∧
    s.presentComparator s.comparatorBlock.a = s

/-- R80, R83, R87, R93, R97 with R241 and 10_state.md section 4 (log 1, log 4, log 11): in every step each stand-alone
sub-block keeps its inputs and uses up one unit of its window; one whose window is over shows its function of its inputs,
and one whose window is still open shows at each output a free value of that port's own (the model's choice, log 5; it
holds for every value of the draws). -/
def Obligations.SubBlocksSettle : Prop :=
  ∀ s : State, ∃ t, step s = .next t ∧ t.ticks = s.ticks + 1 ∧
    (t.zeroerBlock.enable = s.zeroerBlock.enable ∧ t.zeroerBlock.input = s.zeroerBlock.input ∧
      t.zeroerBlock.settling = s.zeroerBlock.settling - 1 ∧
      (s.zeroerBlock.settling ≤ 1 →
        t.zeroerBlock.output = if s.zeroerBlock.enable then 0x0000#16 else s.zeroerBlock.input) ∧
      (1 < s.zeroerBlock.settling → t.zeroerBlock.output = Config.unsettledWord .zeroerOutput s.ticks)) ∧
    (t.inverterBlock.enable = s.inverterBlock.enable ∧ t.inverterBlock.input = s.inverterBlock.input ∧
      t.inverterBlock.settling = s.inverterBlock.settling - 1 ∧
      (s.inverterBlock.settling ≤ 1 →
        t.inverterBlock.output = if s.inverterBlock.enable then ~~~s.inverterBlock.input else s.inverterBlock.input) ∧
      (1 < s.inverterBlock.settling → t.inverterBlock.output = Config.unsettledWord .inverterOutput s.ticks)) ∧
    (t.adderBlock.a = s.adderBlock.a ∧ t.adderBlock.b = s.adderBlock.b ∧
      t.adderBlock.settling = s.adderBlock.settling - 1 ∧
      (s.adderBlock.settling ≤ 1 → t.adderBlock.sum = s.adderBlock.a + s.adderBlock.b) ∧
      (1 < s.adderBlock.settling → t.adderBlock.sum = Config.unsettledWord .adderSum s.ticks)) ∧
    (t.incrementerBlock.a = s.incrementerBlock.a ∧ t.incrementerBlock.settling = s.incrementerBlock.settling - 1 ∧
      (s.incrementerBlock.settling ≤ 1 → t.incrementerBlock.output = s.incrementerBlock.a + 1#16) ∧
      (1 < s.incrementerBlock.settling →
        t.incrementerBlock.output = Config.unsettledWord .incrementerOutput s.ticks)) ∧
    (t.comparatorBlock.a = s.comparatorBlock.a ∧ t.comparatorBlock.settling = s.comparatorBlock.settling - 1 ∧
      (s.comparatorBlock.settling ≤ 1 →
        t.comparatorBlock.zero = decide (s.comparatorBlock.a = 0x0000#16) ∧
        t.comparatorBlock.negative = s.comparatorBlock.a.getLsbD 15) ∧
      (1 < s.comparatorBlock.settling →
        t.comparatorBlock.zero = Config.unsettledBit .comparatorZero s.ticks ∧
        t.comparatorBlock.negative = Config.unsettledBit .comparatorNegative s.ticks))

/-- R221, for the blocks the model holds (log 11): an instruction and any levels presented to the ALU leave the five
sub-blocks alone; any levels presented to a sub-block leave the ALU's ports and window, and the four other sub-blocks,
alone; and what the sub-blocks hold has no effect on the ALU's outputs. -/
def Obligations.BlocksAreIndependent : Prop :=
  (∀ (i : Instr) (s : State), ∃ t, exec i s = .next t ∧ SameBlocks s t) ∧
  (∀ (s : State) (x y : Word) (c : Control), SameBlocks s (s.presentAlu x y c)) ∧
  (∀ (s : State) (e : Bool) (v a b : Word),
    ∀ t ∈ [s.presentZeroer e v, s.presentInverter e v, s.presentAdder a b, s.presentIncrementer a, s.presentComparator a],
      SameInputs s t ∧ t.settling = s.settling ∧ t.result = s.result ∧ t.zero = s.zero ∧ t.negative = s.negative) ∧
  (∀ (s : State) (e : Bool) (v : Word), let t := s.presentZeroer e v
    t.inverterBlock = s.inverterBlock ∧ t.adderBlock = s.adderBlock ∧
    t.incrementerBlock = s.incrementerBlock ∧ t.comparatorBlock = s.comparatorBlock) ∧
  (∀ (s : State) (e : Bool) (v : Word), let t := s.presentInverter e v
    t.zeroerBlock = s.zeroerBlock ∧ t.adderBlock = s.adderBlock ∧
    t.incrementerBlock = s.incrementerBlock ∧ t.comparatorBlock = s.comparatorBlock) ∧
  (∀ (s : State) (a b : Word), let t := s.presentAdder a b
    t.zeroerBlock = s.zeroerBlock ∧ t.inverterBlock = s.inverterBlock ∧
    t.incrementerBlock = s.incrementerBlock ∧ t.comparatorBlock = s.comparatorBlock) ∧
  (∀ (s : State) (a : Word), let t := s.presentIncrementer a
    t.zeroerBlock = s.zeroerBlock ∧ t.inverterBlock = s.inverterBlock ∧
    t.adderBlock = s.adderBlock ∧ t.comparatorBlock = s.comparatorBlock) ∧
  (∀ (s : State) (a : Word), let t := s.presentComparator a
    t.zeroerBlock = s.zeroerBlock ∧ t.inverterBlock = s.inverterBlock ∧
    t.adderBlock = s.adderBlock ∧ t.incrementerBlock = s.incrementerBlock) ∧
  (∀ (s : State) (z : ZeroerPorts) (v : InverterPorts) (a : AdderPorts) (n : IncrementerPorts) (c : ComparatorPorts),
    s.settling ≤ 1 → ∃ t t', step s = .next t ∧
      step { s with zeroerBlock := z, inverterBlock := v, adderBlock := a, incrementerBlock := n, comparatorBlock := c }
        = .next t' ∧
      t.result = t'.result ∧ t.zero = t'.zero ∧ t.negative = t'.negative ∧ t.settling = t'.settling)

/-- R240, R241 (log 3, log 6): at power-up no output has settled; every window is open for the whole of `T_pd`, which is at
least one unit of time. No output has a reset value: each shows the free value of its port and index 0 (the model's
choice, log 6; it holds for every value of the draws). -/
def Obligations.PowerUpIsUnsettled : Prop :=
  0 < Config.tPd ∧ State.reset.settling = Config.tPd ∧ State.reset.zeroerBlock.settling = Config.tPd ∧
  State.reset.inverterBlock.settling = Config.tPd ∧ State.reset.adderBlock.settling = Config.tPd ∧
  State.reset.incrementerBlock.settling = Config.tPd ∧ State.reset.comparatorBlock.settling = Config.tPd ∧
  OutputsAreDraws State.reset 0 ∧
  State.reset.zeroerBlock.output = Config.unsettledWord .zeroerOutput 0 ∧
  State.reset.inverterBlock.output = Config.unsettledWord .inverterOutput 0 ∧
  State.reset.adderBlock.sum = Config.unsettledWord .adderSum 0 ∧
  State.reset.incrementerBlock.output = Config.unsettledWord .incrementerOutput 0 ∧
  State.reset.comparatorBlock.zero = Config.unsettledBit .comparatorZero 0 ∧
  State.reset.comparatorBlock.negative = Config.unsettledBit .comparatorNegative 0

/-- The state at power-up is coherent (the invariant of `StepKeepsCoherence`; log 3). -/
def Obligations.PowerUpIsCoherent : Prop := Coherent State.reset

/-- R20, R44, R241, R244: coherence is an invariant of every step, from every coherent state, reachable or not: no window is
longer than `T_pd`, and every block whose window has closed, the ALU and the five sub-blocks, shows its function of the
present values of its inputs only. Holding ports and windows in a state is the model's choice (log 1, log 2, log 3). -/
def Obligations.StepKeepsCoherence : Prop :=
  ∀ s t : State, Coherent s → step s = .next t → Coherent t

/-- Whatever the driver presents, to the ALU or to a sub-block, coherence is kept (R44, R241, R244; log 3, log 13). -/
def Obligations.PresentingKeepsCoherence : Prop :=
  ∀ (s : State) (x y v a b : Word) (c : Control) (e : Bool), Coherent s →
    Coherent (s.presentAlu x y c) ∧ Coherent (s.presentZeroer e v) ∧ Coherent (s.presentInverter e v) ∧
    Coherent (s.presentAdder a b) ∧ Coherent (s.presentIncrementer a) ∧ Coherent (s.presentComparator a)
end

