-- ==== Sys2Proof/Laws/State.lean ====
section
/-!
SUPPORT. One lemma per field of State for each update of a state, true by rfl, so that no proof unfolds a record update.
-/

namespace Sys2Proof.Machine

/-! driveOutputs: only the three outputs change. -/

@[simp] theorem State.driveOutputs_x (s : State) (r : Word) :
    (s.driveOutputs r).x = s.x := rfl

@[simp] theorem State.driveOutputs_y (s : State) (r : Word) :
    (s.driveOutputs r).y = s.y := rfl

@[simp] theorem State.driveOutputs_control (s : State) (r : Word) :
    (s.driveOutputs r).control = s.control := rfl

@[simp] theorem State.driveOutputs_result (s : State) (r : Word) :
    (s.driveOutputs r).result = r := rfl

@[simp] theorem State.driveOutputs_zero (s : State) (r : Word) :
    (s.driveOutputs r).zero = (comparator r).zero := rfl

@[simp] theorem State.driveOutputs_negative (s : State) (r : Word) :
    (s.driveOutputs r).negative = (comparator r).negative := rfl

@[simp] theorem State.driveOutputs_settling (s : State) (r : Word) :
    (s.driveOutputs r).settling = s.settling := rfl

@[simp] theorem State.driveOutputs_zeroerBlock (s : State) (r : Word) :
    (s.driveOutputs r).zeroerBlock = s.zeroerBlock := rfl

@[simp] theorem State.driveOutputs_inverterBlock (s : State) (r : Word) :
    (s.driveOutputs r).inverterBlock = s.inverterBlock := rfl

@[simp] theorem State.driveOutputs_adderBlock (s : State) (r : Word) :
    (s.driveOutputs r).adderBlock = s.adderBlock := rfl

@[simp] theorem State.driveOutputs_incrementerBlock (s : State) (r : Word) :
    (s.driveOutputs r).incrementerBlock = s.incrementerBlock := rfl

@[simp] theorem State.driveOutputs_comparatorBlock (s : State) (r : Word) :
    (s.driveOutputs r).comparatorBlock = s.comparatorBlock := rfl

@[simp] theorem State.driveOutputs_ticks (s : State) (r : Word) :
    (s.driveOutputs r).ticks = s.ticks := rfl

/-! unsettleOutputs: only the three outputs change. -/

@[simp] theorem State.unsettleOutputs_x (s : State) :
    (s.unsettleOutputs).x = s.x := rfl

@[simp] theorem State.unsettleOutputs_y (s : State) :
    (s.unsettleOutputs).y = s.y := rfl

@[simp] theorem State.unsettleOutputs_control (s : State) :
    (s.unsettleOutputs).control = s.control := rfl

@[simp] theorem State.unsettleOutputs_result (s : State) :
    (s.unsettleOutputs).result = Config.unsettledWord .result s.ticks := rfl

@[simp] theorem State.unsettleOutputs_zero (s : State) :
    (s.unsettleOutputs).zero = Config.unsettledBit .zero s.ticks := rfl

@[simp] theorem State.unsettleOutputs_negative (s : State) :
    (s.unsettleOutputs).negative = Config.unsettledBit .negative s.ticks := rfl

@[simp] theorem State.unsettleOutputs_settling (s : State) :
    (s.unsettleOutputs).settling = s.settling := rfl

@[simp] theorem State.unsettleOutputs_zeroerBlock (s : State) :
    (s.unsettleOutputs).zeroerBlock = s.zeroerBlock := rfl

@[simp] theorem State.unsettleOutputs_inverterBlock (s : State) :
    (s.unsettleOutputs).inverterBlock = s.inverterBlock := rfl

@[simp] theorem State.unsettleOutputs_adderBlock (s : State) :
    (s.unsettleOutputs).adderBlock = s.adderBlock := rfl

@[simp] theorem State.unsettleOutputs_incrementerBlock (s : State) :
    (s.unsettleOutputs).incrementerBlock = s.incrementerBlock := rfl

@[simp] theorem State.unsettleOutputs_comparatorBlock (s : State) :
    (s.unsettleOutputs).comparatorBlock = s.comparatorBlock := rfl

@[simp] theorem State.unsettleOutputs_ticks (s : State) :
    (s.unsettleOutputs).ticks = s.ticks := rfl

/-! tickBlocks: only the sub-blocks change. -/

@[simp] theorem State.tickBlocks_x (s : State) :
    (s.tickBlocks).x = s.x := rfl

@[simp] theorem State.tickBlocks_y (s : State) :
    (s.tickBlocks).y = s.y := rfl

@[simp] theorem State.tickBlocks_control (s : State) :
    (s.tickBlocks).control = s.control := rfl

@[simp] theorem State.tickBlocks_result (s : State) :
    (s.tickBlocks).result = s.result := rfl

@[simp] theorem State.tickBlocks_zero (s : State) :
    (s.tickBlocks).zero = s.zero := rfl

@[simp] theorem State.tickBlocks_negative (s : State) :
    (s.tickBlocks).negative = s.negative := rfl

@[simp] theorem State.tickBlocks_settling (s : State) :
    (s.tickBlocks).settling = s.settling := rfl

@[simp] theorem State.tickBlocks_zeroerBlock (s : State) :
    (s.tickBlocks).zeroerBlock = tickZeroer s.ticks s.zeroerBlock := rfl

@[simp] theorem State.tickBlocks_inverterBlock (s : State) :
    (s.tickBlocks).inverterBlock = tickInverter s.ticks s.inverterBlock := rfl

@[simp] theorem State.tickBlocks_adderBlock (s : State) :
    (s.tickBlocks).adderBlock = tickAdder s.ticks s.adderBlock := rfl

@[simp] theorem State.tickBlocks_incrementerBlock (s : State) :
    (s.tickBlocks).incrementerBlock = tickIncrementer s.ticks s.incrementerBlock := rfl

@[simp] theorem State.tickBlocks_comparatorBlock (s : State) :
    (s.tickBlocks).comparatorBlock = tickComparator s.ticks s.comparatorBlock := rfl

@[simp] theorem State.tickBlocks_ticks (s : State) :
    (s.tickBlocks).ticks = s.ticks := rfl

/-! passTime: the windows, the sub-blocks and the index of the next free value. -/

@[simp] theorem State.passTime_x (s : State) :
    (s.passTime).x = s.x := rfl

@[simp] theorem State.passTime_y (s : State) :
    (s.passTime).y = s.y := rfl

@[simp] theorem State.passTime_control (s : State) :
    (s.passTime).control = s.control := rfl

@[simp] theorem State.passTime_result (s : State) :
    (s.passTime).result = s.result := rfl

@[simp] theorem State.passTime_zero (s : State) :
    (s.passTime).zero = s.zero := rfl

@[simp] theorem State.passTime_negative (s : State) :
    (s.passTime).negative = s.negative := rfl

@[simp] theorem State.passTime_settling (s : State) :
    (s.passTime).settling = s.settling - 1 := rfl

@[simp] theorem State.passTime_zeroerBlock (s : State) :
    (s.passTime).zeroerBlock = tickZeroer s.ticks s.zeroerBlock := rfl

@[simp] theorem State.passTime_inverterBlock (s : State) :
    (s.passTime).inverterBlock = tickInverter s.ticks s.inverterBlock := rfl

@[simp] theorem State.passTime_adderBlock (s : State) :
    (s.passTime).adderBlock = tickAdder s.ticks s.adderBlock := rfl

@[simp] theorem State.passTime_incrementerBlock (s : State) :
    (s.passTime).incrementerBlock = tickIncrementer s.ticks s.incrementerBlock := rfl

@[simp] theorem State.passTime_comparatorBlock (s : State) :
    (s.passTime).comparatorBlock = tickComparator s.ticks s.comparatorBlock := rfl

@[simp] theorem State.passTime_ticks (s : State) :
    (s.passTime).ticks = s.ticks + 1 := rfl

/-! glitch: passTime with the outputs of the ALU free. -/

@[simp] theorem State.glitch_x (s : State) :
    (s.glitch).x = s.x := rfl

@[simp] theorem State.glitch_y (s : State) :
    (s.glitch).y = s.y := rfl

@[simp] theorem State.glitch_control (s : State) :
    (s.glitch).control = s.control := rfl

@[simp] theorem State.glitch_result (s : State) :
    (s.glitch).result = Config.unsettledWord .result s.ticks := rfl

@[simp] theorem State.glitch_zero (s : State) :
    (s.glitch).zero = Config.unsettledBit .zero s.ticks := rfl

@[simp] theorem State.glitch_negative (s : State) :
    (s.glitch).negative = Config.unsettledBit .negative s.ticks := rfl

@[simp] theorem State.glitch_settling (s : State) :
    (s.glitch).settling = s.settling - 1 := rfl

@[simp] theorem State.glitch_zeroerBlock (s : State) :
    (s.glitch).zeroerBlock = tickZeroer s.ticks s.zeroerBlock := rfl

@[simp] theorem State.glitch_inverterBlock (s : State) :
    (s.glitch).inverterBlock = tickInverter s.ticks s.inverterBlock := rfl

@[simp] theorem State.glitch_adderBlock (s : State) :
    (s.glitch).adderBlock = tickAdder s.ticks s.adderBlock := rfl

@[simp] theorem State.glitch_incrementerBlock (s : State) :
    (s.glitch).incrementerBlock = tickIncrementer s.ticks s.incrementerBlock := rfl

@[simp] theorem State.glitch_comparatorBlock (s : State) :
    (s.glitch).comparatorBlock = tickComparator s.ticks s.comparatorBlock := rfl

@[simp] theorem State.glitch_ticks (s : State) :
    (s.glitch).ticks = s.ticks + 1 := rfl

/-! presentSettledControl: the control port and the window. -/

@[simp] theorem State.presentSettledControl_x (s : State) (c : Control) :
    (s.presentSettledControl c).x = s.x := rfl

@[simp] theorem State.presentSettledControl_y (s : State) (c : Control) :
    (s.presentSettledControl c).y = s.y := rfl

@[simp] theorem State.presentSettledControl_control (s : State) (c : Control) :
    (s.presentSettledControl c).control = c := rfl

@[simp] theorem State.presentSettledControl_result (s : State) (c : Control) :
    (s.presentSettledControl c).result = s.result := rfl

@[simp] theorem State.presentSettledControl_zero (s : State) (c : Control) :
    (s.presentSettledControl c).zero = s.zero := rfl

@[simp] theorem State.presentSettledControl_negative (s : State) (c : Control) :
    (s.presentSettledControl c).negative = s.negative := rfl

@[simp] theorem State.presentSettledControl_settling (s : State) (c : Control) :
    (s.presentSettledControl c).settling = 0 := rfl

@[simp] theorem State.presentSettledControl_zeroerBlock (s : State) (c : Control) :
    (s.presentSettledControl c).zeroerBlock = s.zeroerBlock := rfl

@[simp] theorem State.presentSettledControl_inverterBlock (s : State) (c : Control) :
    (s.presentSettledControl c).inverterBlock = s.inverterBlock := rfl

@[simp] theorem State.presentSettledControl_adderBlock (s : State) (c : Control) :
    (s.presentSettledControl c).adderBlock = s.adderBlock := rfl

@[simp] theorem State.presentSettledControl_incrementerBlock (s : State) (c : Control) :
    (s.presentSettledControl c).incrementerBlock = s.incrementerBlock := rfl

@[simp] theorem State.presentSettledControl_comparatorBlock (s : State) (c : Control) :
    (s.presentSettledControl c).comparatorBlock = s.comparatorBlock := rfl

@[simp] theorem State.presentSettledControl_ticks (s : State) (c : Control) :
    (s.presentSettledControl c).ticks = s.ticks := rfl

/-! withFetchWord: the control port and the window. -/

@[simp] theorem State.withFetchWord_x (s : State) (nbits w : Nat) :
    (s.withFetchWord nbits w).x = s.x := rfl

@[simp] theorem State.withFetchWord_y (s : State) (nbits w : Nat) :
    (s.withFetchWord nbits w).y = s.y := rfl

@[simp] theorem State.withFetchWord_control (s : State) (nbits w : Nat) :
    (s.withFetchWord nbits w).control = BitVec.ofNat 6 w := rfl

@[simp] theorem State.withFetchWord_result (s : State) (nbits w : Nat) :
    (s.withFetchWord nbits w).result = s.result := rfl

@[simp] theorem State.withFetchWord_zero (s : State) (nbits w : Nat) :
    (s.withFetchWord nbits w).zero = s.zero := rfl

@[simp] theorem State.withFetchWord_negative (s : State) (nbits w : Nat) :
    (s.withFetchWord nbits w).negative = s.negative := rfl

@[simp] theorem State.withFetchWord_settling (s : State) (nbits w : Nat) :
    (s.withFetchWord nbits w).settling = 0 := rfl

@[simp] theorem State.withFetchWord_zeroerBlock (s : State) (nbits w : Nat) :
    (s.withFetchWord nbits w).zeroerBlock = s.zeroerBlock := rfl

@[simp] theorem State.withFetchWord_inverterBlock (s : State) (nbits w : Nat) :
    (s.withFetchWord nbits w).inverterBlock = s.inverterBlock := rfl

@[simp] theorem State.withFetchWord_adderBlock (s : State) (nbits w : Nat) :
    (s.withFetchWord nbits w).adderBlock = s.adderBlock := rfl

@[simp] theorem State.withFetchWord_incrementerBlock (s : State) (nbits w : Nat) :
    (s.withFetchWord nbits w).incrementerBlock = s.incrementerBlock := rfl

@[simp] theorem State.withFetchWord_comparatorBlock (s : State) (nbits w : Nat) :
    (s.withFetchWord nbits w).comparatorBlock = s.comparatorBlock := rfl

@[simp] theorem State.withFetchWord_ticks (s : State) (nbits w : Nat) :
    (s.withFetchWord nbits w).ticks = s.ticks := rfl

end Sys2Proof.Machine

namespace Sys2Proof

open Sys2Proof.Machine

/-! showing: only the three outputs change. -/

@[simp] theorem showing_x (r : Word) (s : State) :
    (showing r s).x = s.x := rfl

@[simp] theorem showing_y (r : Word) (s : State) :
    (showing r s).y = s.y := rfl

@[simp] theorem showing_control (r : Word) (s : State) :
    (showing r s).control = s.control := rfl

@[simp] theorem showing_result (r : Word) (s : State) :
    (showing r s).result = r := rfl

@[simp] theorem showing_zero (r : Word) (s : State) :
    (showing r s).zero = decide (r = 0x0000#16) := rfl

@[simp] theorem showing_negative (r : Word) (s : State) :
    (showing r s).negative = r.getLsbD 15 := rfl

@[simp] theorem showing_settling (r : Word) (s : State) :
    (showing r s).settling = s.settling := rfl

@[simp] theorem showing_zeroerBlock (r : Word) (s : State) :
    (showing r s).zeroerBlock = s.zeroerBlock := rfl

@[simp] theorem showing_inverterBlock (r : Word) (s : State) :
    (showing r s).inverterBlock = s.inverterBlock := rfl

@[simp] theorem showing_adderBlock (r : Word) (s : State) :
    (showing r s).adderBlock = s.adderBlock := rfl

@[simp] theorem showing_incrementerBlock (r : Word) (s : State) :
    (showing r s).incrementerBlock = s.incrementerBlock := rfl

@[simp] theorem showing_comparatorBlock (r : Word) (s : State) :
    (showing r s).comparatorBlock = s.comparatorBlock := rfl

@[simp] theorem showing_ticks (r : Word) (s : State) :
    (showing r s).ticks = s.ticks := rfl

end Sys2Proof
end

