-- ==== Sys2Proof/Laws/Ops.lean ====
section
/-!
SUPPORT. For each shared operation, one lemma that says once all it can do.
-/

namespace Sys2Proof.Machine

/-- The Adder is addition of 16-bit words (R12, R87). -/
theorem adder_eq_add (a b : Word) : adder a b = a + b := by
  apply BitVec.eq_of_toNat_eq
  simp [adder, BitVec.toNat_add]

/-- The Incrementer is addition of 1 (R93). -/
theorem incrementer_eq_add_one (a : Word) : incrementer a = a + 1#16 := adder_eq_add a 1#16

@[simp] theorem comparator_zero (a : Word) : (comparator a).zero = decide (a = 0x0000#16) := by
  simp [comparator, BEq.beq]

@[simp] theorem comparator_negative (a : Word) : (comparator a).negative = a.getLsbD 15 := rfl

/-- Driving the outputs with `r` is showing `r`. -/
theorem State.driveOutputs_eq_showing (s : State) (r : Word) : s.driveOutputs r = showing r s := by
  simp [State.driveOutputs, showing]

/-- All an evaluation can do: it answers one next state, which shows the result of the stages. -/
theorem State.evaluate_eq_next (f : Fields) (s : State) :
    s.evaluate f = .next (showing (aluResult f s.x s.y) s) := by
  rw [State.evaluate, State.driveOutputs_eq_showing]

/-- Every instruction is one evaluation with its own fields. -/
theorem exec_eq_evaluate (i : Instr) (s : State) : exec i s = s.evaluate i.fields := by
  cases i <;> rfl

/-- All an instruction can do. -/
theorem exec_eq_next (i : Instr) (s : State) : exec i s = .next (showing (aluResult i.fields s.x s.y) s) := by
  rw [exec_eq_evaluate, State.evaluate_eq_next]

/-- All a step can do: either the ALU is settled at its end and the instruction on the control port ran after one unit of
time, or the outputs are unspecified. -/
theorem step_cases {s t : State} (h : step s = .next t) :
    (s.settling - 1 = 0 ∧ t = showing (aluResult s.fetch.fields s.x s.y) s.passTime) ∨
    (s.settling - 1 ≠ 0 ∧ t = s.glitch) := by
  unfold step at h
  split at h
  · rename_i settled
    rw [exec_eq_next] at h
    cases h
    exact .inl ⟨settled, rfl⟩
  · rename_i unsettled
    cases h
    exact .inr ⟨unsettled, rfl⟩

theorem step_settled {s : State} (h : s.settling - 1 = 0) :
    step s = .next (showing (aluResult s.fetch.fields s.x s.y) s.passTime) := by
  rw [step, if_pos h, exec_eq_next]
  rfl

theorem step_unsettled {s : State} (h : s.settling - 1 ≠ 0) : step s = .next s.glitch := by
  rw [step, if_neg h]

/-- All presenting levels at the ALU can do. -/
theorem State.presentAlu_cases (s : State) (x y : Word) (c : Control) :
    ((x = s.x ∧ y = s.y ∧ c = s.control) ∧ s.presentAlu x y c = s) ∨
    (¬(x = s.x ∧ y = s.y ∧ c = s.control) ∧ s.presentAlu x y c =
      { s.unsettleOutputs with x := x, y := y, control := c, settling := Config.tPd, ticks := s.ticks + 1 }) := by
  unfold State.presentAlu
  split
  · rename_i same
    exact .inl ⟨same, rfl⟩
  · rename_i changed
    exact .inr ⟨changed, rfl⟩

/-! One unit of time at each stand-alone sub-block: it ends settled, or its outputs are free values. -/

theorem tickZeroer_settled (n : Nat) {p : ZeroerPorts} (h : p.settling - 1 = 0) :
    tickZeroer n p =
      { p with output := zeroer p.enable p.input, settling := 0 } :=
  if_pos h

theorem tickZeroer_unsettled (n : Nat) {p : ZeroerPorts} (h : p.settling - 1 ≠ 0) :
    tickZeroer n p =
      { p with output := Config.unsettledWord .zeroerOutput n, settling := p.settling - 1 } :=
  if_neg h

theorem tickInverter_settled (n : Nat) {p : InverterPorts} (h : p.settling - 1 = 0) :
    tickInverter n p =
      { p with output := inverter p.enable p.input, settling := 0 } :=
  if_pos h

theorem tickInverter_unsettled (n : Nat) {p : InverterPorts} (h : p.settling - 1 ≠ 0) :
    tickInverter n p =
      { p with output := Config.unsettledWord .inverterOutput n, settling := p.settling - 1 } :=
  if_neg h

theorem tickAdder_settled (n : Nat) {p : AdderPorts} (h : p.settling - 1 = 0) :
    tickAdder n p =
      { p with sum := adder p.a p.b, settling := 0 } :=
  if_pos h

theorem tickAdder_unsettled (n : Nat) {p : AdderPorts} (h : p.settling - 1 ≠ 0) :
    tickAdder n p =
      { p with sum := Config.unsettledWord .adderSum n, settling := p.settling - 1 } :=
  if_neg h

theorem tickIncrementer_settled (n : Nat) {p : IncrementerPorts} (h : p.settling - 1 = 0) :
    tickIncrementer n p =
      { p with output := incrementer p.a, settling := 0 } :=
  if_pos h

theorem tickIncrementer_unsettled (n : Nat) {p : IncrementerPorts} (h : p.settling - 1 ≠ 0) :
    tickIncrementer n p =
      { p with output := Config.unsettledWord .incrementerOutput n, settling := p.settling - 1 } :=
  if_neg h

theorem tickComparator_settled (n : Nat) {p : ComparatorPorts} (h : p.settling - 1 = 0) :
    tickComparator n p =
      { p with zero := (comparator p.a).zero, negative := (comparator p.a).negative, settling := 0 } :=
  if_pos h

theorem tickComparator_unsettled (n : Nat) {p : ComparatorPorts} (h : p.settling - 1 ≠ 0) :
    tickComparator n p =
      { p with zero := Config.unsettledBit .comparatorZero n, negative := Config.unsettledBit .comparatorNegative n,
               settling := p.settling - 1 } :=
  if_neg h

/-- All presenting levels at the stand-alone Zeroer can do: the same levels again change nothing, and new ones change that
block and the index of the next free value. -/
theorem State.presentZeroer_cases (s : State) (enable : Bool) (input : Word) :
    ((enable = s.zeroerBlock.enable ∧ input = s.zeroerBlock.input) ∧ s.presentZeroer enable input = s) ∨
    (¬(enable = s.zeroerBlock.enable ∧ input = s.zeroerBlock.input) ∧ s.presentZeroer enable input =
      { s with
        zeroerBlock :=
          { enable := enable, input := input, output := Config.unsettledWord .zeroerOutput s.ticks,
            settling := Config.tPd }
        ticks := s.ticks + 1 }) := by
  unfold State.presentZeroer
  split
  · rename_i same
    exact .inl ⟨same, rfl⟩
  · rename_i changed
    exact .inr ⟨changed, rfl⟩

/-- All presenting levels at the stand-alone Inverter can do: the same levels again change nothing, and new ones change that
block and the index of the next free value. -/
theorem State.presentInverter_cases (s : State) (enable : Bool) (input : Word) :
    ((enable = s.inverterBlock.enable ∧ input = s.inverterBlock.input) ∧ s.presentInverter enable input = s) ∨
    (¬(enable = s.inverterBlock.enable ∧ input = s.inverterBlock.input) ∧ s.presentInverter enable input =
      { s with
        inverterBlock :=
          { enable := enable, input := input, output := Config.unsettledWord .inverterOutput s.ticks,
            settling := Config.tPd }
        ticks := s.ticks + 1 }) := by
  unfold State.presentInverter
  split
  · rename_i same
    exact .inl ⟨same, rfl⟩
  · rename_i changed
    exact .inr ⟨changed, rfl⟩

/-- All presenting levels at the stand-alone Adder can do: the same levels again change nothing, and new ones change that
block and the index of the next free value. -/
theorem State.presentAdder_cases (s : State) (a b : Word) :
    ((a = s.adderBlock.a ∧ b = s.adderBlock.b) ∧ s.presentAdder a b = s) ∨
    (¬(a = s.adderBlock.a ∧ b = s.adderBlock.b) ∧ s.presentAdder a b =
      { s with
        adderBlock :=
          { a := a, b := b, sum := Config.unsettledWord .adderSum s.ticks, settling := Config.tPd }
        ticks := s.ticks + 1 }) := by
  unfold State.presentAdder
  split
  · rename_i same
    exact .inl ⟨same, rfl⟩
  · rename_i changed
    exact .inr ⟨changed, rfl⟩

/-- All presenting levels at the stand-alone Incrementer can do: the same levels again change nothing, and new ones change that
block and the index of the next free value. -/
theorem State.presentIncrementer_cases (s : State) (a : Word) :
    (a = s.incrementerBlock.a ∧ s.presentIncrementer a = s) ∨
    (¬a = s.incrementerBlock.a ∧ s.presentIncrementer a =
      { s with
        incrementerBlock :=
          { a := a, output := Config.unsettledWord .incrementerOutput s.ticks, settling := Config.tPd }
        ticks := s.ticks + 1 }) := by
  unfold State.presentIncrementer
  split
  · rename_i same
    exact .inl ⟨same, rfl⟩
  · rename_i changed
    exact .inr ⟨changed, rfl⟩

/-- All presenting levels at the stand-alone Comparator can do: the same levels again change nothing, and new ones change that
block and the index of the next free value. -/
theorem State.presentComparator_cases (s : State) (a : Word) :
    (a = s.comparatorBlock.a ∧ s.presentComparator a = s) ∨
    (¬a = s.comparatorBlock.a ∧ s.presentComparator a =
      { s with
        comparatorBlock :=
          { a := a, zero := Config.unsettledBit .comparatorZero s.ticks,
            negative := Config.unsettledBit .comparatorNegative s.ticks, settling := Config.tPd }
        ticks := s.ticks + 1 }) := by
  unfold State.presentComparator
  split
  · rename_i same
    exact .inl ⟨same, rfl⟩
  · rename_i changed
    exact .inr ⟨changed, rfl⟩

/-- All a port can do: its levels are read as a word, or it is refused by one of two names. -/
theorem withPort_cases (w : Nat) (levels : List Level) (use : BitVec w → Host.Outcome State Fault Refusal) :
    (∃ v, readPort w levels = .ok v ∧ withPort w levels use = use v) ∨
    (levels.length = w ∧ levelsValue levels = none ∧ withPort w levels use = .refused .nonLogicLevel) ∨
    (levels.length ≠ w ∧ withPort w levels use = .refused .widthViolation) := by
  unfold withPort readPort
  by_cases width : levels.length = w
  · cases value : levelsValue levels with
    | none => simp [width]
    | some n => simp [width]
  · simp [width]

end Sys2Proof.Machine

namespace Sys2Proof

open Sys2Proof.Machine

/-- What an instruction computes is what its stages compute. -/
theorem computes_iff (i : Instr) (f : Word → Word → Word) :
    Computes i f ↔ ∀ s : State, showing (aluResult i.fields s.x s.y) s = showing (f s.x s.y) s := by
  simp [Computes, exec_eq_next]

end Sys2Proof
end

