-- ==== Sys2Proof/Laws/PerInstr.lean ====
section
/-!
SUPPORT. Statements made per instruction. ControlFields: the fields an instruction's rule lists are the bits of its
control word (30_encoding.md R61).
-/

namespace Sys2Proof.Laws

/-- R61: the six bits of the instruction's control word are the fields its rule lists. -/
def ControlFields.Statement (i : Instr) : Prop := Fields.ofControl (encode i) = i.fields

theorem ControlFields.and : ControlFields.Statement .and := rfl

theorem ControlFields.andNo : ControlFields.Statement .andNo := rfl

theorem ControlFields.add : ControlFields.Statement .add := rfl

theorem ControlFields.addNo : ControlFields.Statement .addNo := rfl

theorem ControlFields.andNy : ControlFields.Statement .andNy := rfl

theorem ControlFields.andNyNo : ControlFields.Statement .andNyNo := rfl

theorem ControlFields.addNy : ControlFields.Statement .addNy := rfl

theorem ControlFields.addNyNo : ControlFields.Statement .addNyNo := rfl

theorem ControlFields.andZy : ControlFields.Statement .andZy := rfl

theorem ControlFields.andZyNo : ControlFields.Statement .andZyNo := rfl

theorem ControlFields.addZy : ControlFields.Statement .addZy := rfl

theorem ControlFields.addZyNo : ControlFields.Statement .addZyNo := rfl

theorem ControlFields.andZyNy : ControlFields.Statement .andZyNy := rfl

theorem ControlFields.andZyNyNo : ControlFields.Statement .andZyNyNo := rfl

theorem ControlFields.addZyNy : ControlFields.Statement .addZyNy := rfl

theorem ControlFields.addZyNyNo : ControlFields.Statement .addZyNyNo := rfl

theorem ControlFields.andNx : ControlFields.Statement .andNx := rfl

theorem ControlFields.andNxNo : ControlFields.Statement .andNxNo := rfl

theorem ControlFields.addNx : ControlFields.Statement .addNx := rfl

theorem ControlFields.addNxNo : ControlFields.Statement .addNxNo := rfl

theorem ControlFields.andNxNy : ControlFields.Statement .andNxNy := rfl

theorem ControlFields.andNxNyNo : ControlFields.Statement .andNxNyNo := rfl

theorem ControlFields.addNxNy : ControlFields.Statement .addNxNy := rfl

theorem ControlFields.addNxNyNo : ControlFields.Statement .addNxNyNo := rfl

theorem ControlFields.andNxZy : ControlFields.Statement .andNxZy := rfl

theorem ControlFields.andNxZyNo : ControlFields.Statement .andNxZyNo := rfl

theorem ControlFields.addNxZy : ControlFields.Statement .addNxZy := rfl

theorem ControlFields.addNxZyNo : ControlFields.Statement .addNxZyNo := rfl

theorem ControlFields.andNxZyNy : ControlFields.Statement .andNxZyNy := rfl

theorem ControlFields.andNxZyNyNo : ControlFields.Statement .andNxZyNyNo := rfl

theorem ControlFields.addNxZyNy : ControlFields.Statement .addNxZyNy := rfl

theorem ControlFields.addNxZyNyNo : ControlFields.Statement .addNxZyNyNo := rfl

theorem ControlFields.andZx : ControlFields.Statement .andZx := rfl

theorem ControlFields.andZxNo : ControlFields.Statement .andZxNo := rfl

theorem ControlFields.addZx : ControlFields.Statement .addZx := rfl

theorem ControlFields.addZxNo : ControlFields.Statement .addZxNo := rfl

theorem ControlFields.andZxNy : ControlFields.Statement .andZxNy := rfl

theorem ControlFields.andZxNyNo : ControlFields.Statement .andZxNyNo := rfl

theorem ControlFields.addZxNy : ControlFields.Statement .addZxNy := rfl

theorem ControlFields.addZxNyNo : ControlFields.Statement .addZxNyNo := rfl

theorem ControlFields.andZxZy : ControlFields.Statement .andZxZy := rfl

theorem ControlFields.andZxZyNo : ControlFields.Statement .andZxZyNo := rfl

theorem ControlFields.addZxZy : ControlFields.Statement .addZxZy := rfl

theorem ControlFields.addZxZyNo : ControlFields.Statement .addZxZyNo := rfl

theorem ControlFields.andZxZyNy : ControlFields.Statement .andZxZyNy := rfl

theorem ControlFields.andZxZyNyNo : ControlFields.Statement .andZxZyNyNo := rfl

theorem ControlFields.addZxZyNy : ControlFields.Statement .addZxZyNy := rfl

theorem ControlFields.addZxZyNyNo : ControlFields.Statement .addZxZyNyNo := rfl

theorem ControlFields.andZxNx : ControlFields.Statement .andZxNx := rfl

theorem ControlFields.andZxNxNo : ControlFields.Statement .andZxNxNo := rfl

theorem ControlFields.addZxNx : ControlFields.Statement .addZxNx := rfl

theorem ControlFields.addZxNxNo : ControlFields.Statement .addZxNxNo := rfl

theorem ControlFields.andZxNxNy : ControlFields.Statement .andZxNxNy := rfl

theorem ControlFields.andZxNxNyNo : ControlFields.Statement .andZxNxNyNo := rfl

theorem ControlFields.addZxNxNy : ControlFields.Statement .addZxNxNy := rfl

theorem ControlFields.addZxNxNyNo : ControlFields.Statement .addZxNxNyNo := rfl

theorem ControlFields.andZxNxZy : ControlFields.Statement .andZxNxZy := rfl

theorem ControlFields.andZxNxZyNo : ControlFields.Statement .andZxNxZyNo := rfl

theorem ControlFields.addZxNxZy : ControlFields.Statement .addZxNxZy := rfl

theorem ControlFields.addZxNxZyNo : ControlFields.Statement .addZxNxZyNo := rfl

theorem ControlFields.andZxNxZyNy : ControlFields.Statement .andZxNxZyNy := rfl

theorem ControlFields.andZxNxZyNyNo : ControlFields.Statement .andZxNxZyNyNo := rfl

theorem ControlFields.addZxNxZyNy : ControlFields.Statement .addZxNxZyNy := rfl

theorem ControlFields.addZxNxZyNyNo : ControlFields.Statement .addZxNxZyNyNo := rfl

end Sys2Proof.Laws
end

