-- ==== Sys2Proof/Tests/Slice0.lean ====
section
/-!
SUPPORT. The model's own tests. Expected values come from spec/: the encodings of 30_encoding.md R67, the tables of
95_test_vectors.md, and the worked examples and corner cases of the rules. Then, for each statement with hypotheses, a
state and operands that meet them.
-/

namespace Sys2Proof.Tests

open Sys2Proof Sys2Proof.Machine

/-- The outputs (result, zero, negative) after one step from power-up with x and y on the operand ports and the table's
word `w` placed on the control port. -/
def outputs (w : Nat) (x y : Word) : Option (Word × Bool × Bool) :=
  match step ({ State.reset with x := x, y := y }.withFetchWord 8 w) with
  | .next t => some (t.result, t.zero, t.negative)
  | .fault _ => none
  | .refused _ => none

/-! ## Encoding: every control word as 30_encoding.md R67 writes it -/

theorem test_decode_words_0_to_7 :
    decode 0b000000#6 = .and ∧
    decode 0b000001#6 = .andNo ∧
    decode 0b000010#6 = .add ∧
    decode 0b000011#6 = .addNo ∧
    decode 0b000100#6 = .andNy ∧
    decode 0b000101#6 = .andNyNo ∧
    decode 0b000110#6 = .addNy ∧
    decode 0b000111#6 = .addNyNo := by decide

theorem test_decode_words_8_to_15 :
    decode 0b001000#6 = .andZy ∧
    decode 0b001001#6 = .andZyNo ∧
    decode 0b001010#6 = .addZy ∧
    decode 0b001011#6 = .addZyNo ∧
    decode 0b001100#6 = .andZyNy ∧
    decode 0b001101#6 = .andZyNyNo ∧
    decode 0b001110#6 = .addZyNy ∧
    decode 0b001111#6 = .addZyNyNo := by decide

theorem test_decode_words_16_to_23 :
    decode 0b010000#6 = .andNx ∧
    decode 0b010001#6 = .andNxNo ∧
    decode 0b010010#6 = .addNx ∧
    decode 0b010011#6 = .addNxNo ∧
    decode 0b010100#6 = .andNxNy ∧
    decode 0b010101#6 = .andNxNyNo ∧
    decode 0b010110#6 = .addNxNy ∧
    decode 0b010111#6 = .addNxNyNo := by decide

theorem test_decode_words_24_to_31 :
    decode 0b011000#6 = .andNxZy ∧
    decode 0b011001#6 = .andNxZyNo ∧
    decode 0b011010#6 = .addNxZy ∧
    decode 0b011011#6 = .addNxZyNo ∧
    decode 0b011100#6 = .andNxZyNy ∧
    decode 0b011101#6 = .andNxZyNyNo ∧
    decode 0b011110#6 = .addNxZyNy ∧
    decode 0b011111#6 = .addNxZyNyNo := by decide

theorem test_decode_words_32_to_39 :
    decode 0b100000#6 = .andZx ∧
    decode 0b100001#6 = .andZxNo ∧
    decode 0b100010#6 = .addZx ∧
    decode 0b100011#6 = .addZxNo ∧
    decode 0b100100#6 = .andZxNy ∧
    decode 0b100101#6 = .andZxNyNo ∧
    decode 0b100110#6 = .addZxNy ∧
    decode 0b100111#6 = .addZxNyNo := by decide

theorem test_decode_words_40_to_47 :
    decode 0b101000#6 = .andZxZy ∧
    decode 0b101001#6 = .andZxZyNo ∧
    decode 0b101010#6 = .addZxZy ∧
    decode 0b101011#6 = .addZxZyNo ∧
    decode 0b101100#6 = .andZxZyNy ∧
    decode 0b101101#6 = .andZxZyNyNo ∧
    decode 0b101110#6 = .addZxZyNy ∧
    decode 0b101111#6 = .addZxZyNyNo := by decide

theorem test_decode_words_48_to_55 :
    decode 0b110000#6 = .andZxNx ∧
    decode 0b110001#6 = .andZxNxNo ∧
    decode 0b110010#6 = .addZxNx ∧
    decode 0b110011#6 = .addZxNxNo ∧
    decode 0b110100#6 = .andZxNxNy ∧
    decode 0b110101#6 = .andZxNxNyNo ∧
    decode 0b110110#6 = .addZxNxNy ∧
    decode 0b110111#6 = .addZxNxNyNo := by decide

theorem test_decode_words_56_to_63 :
    decode 0b111000#6 = .andZxNxZy ∧
    decode 0b111001#6 = .andZxNxZyNo ∧
    decode 0b111010#6 = .addZxNxZy ∧
    decode 0b111011#6 = .addZxNxZyNo ∧
    decode 0b111100#6 = .andZxNxZyNy ∧
    decode 0b111101#6 = .andZxNxZyNyNo ∧
    decode 0b111110#6 = .addZxNxZyNy ∧
    decode 0b111111#6 = .addZxNxZyNyNo := by decide

theorem test_word_wider_than_port_is_refused :
    decodeNat 64 = .error .widthViolation ∧ decodeTableWord 8 64 = none ∧ decodeTableWord 8 63 = some .addZxNxZyNyNo := by
  decide

/-- 30_encoding.md R67, the column "mnemonic", in the order of the table. -/
theorem test_mnemonics_of_the_table :
    (List.range 64).map (fun n => (decode (BitVec.ofNat 6 n)).mnemonic) =
      ["AND", "AND.NO", "ADD", "ADD.NO",
       "AND.NY", "AND.NY.NO", "ADD.NY", "ADD.NY.NO",
       "AND.ZY", "AND.ZY.NO", "ADD.ZY", "ADD.ZY.NO",
       "AND.ZY.NY", "AND.ZY.NY.NO", "ADD.ZY.NY", "ADD.ZY.NY.NO",
       "AND.NX", "AND.NX.NO", "ADD.NX", "ADD.NX.NO",
       "AND.NX.NY", "AND.NX.NY.NO", "ADD.NX.NY", "ADD.NX.NY.NO",
       "AND.NX.ZY", "AND.NX.ZY.NO", "ADD.NX.ZY", "ADD.NX.ZY.NO",
       "AND.NX.ZY.NY", "AND.NX.ZY.NY.NO", "ADD.NX.ZY.NY", "ADD.NX.ZY.NY.NO",
       "AND.ZX", "AND.ZX.NO", "ADD.ZX", "ADD.ZX.NO",
       "AND.ZX.NY", "AND.ZX.NY.NO", "ADD.ZX.NY", "ADD.ZX.NY.NO",
       "AND.ZX.ZY", "AND.ZX.ZY.NO", "ADD.ZX.ZY", "ADD.ZX.ZY.NO",
       "AND.ZX.ZY.NY", "AND.ZX.ZY.NY.NO", "ADD.ZX.ZY.NY", "ADD.ZX.ZY.NY.NO",
       "AND.ZX.NX", "AND.ZX.NX.NO", "ADD.ZX.NX", "ADD.ZX.NX.NO",
       "AND.ZX.NX.NY", "AND.ZX.NX.NY.NO", "ADD.ZX.NX.NY", "ADD.ZX.NX.NY.NO",
       "AND.ZX.NX.ZY", "AND.ZX.NX.ZY.NO", "ADD.ZX.NX.ZY", "ADD.ZX.NX.ZY.NO",
       "AND.ZX.NX.ZY.NY", "AND.ZX.NX.ZY.NY.NO", "ADD.ZX.NX.ZY.NY", "ADD.ZX.NX.ZY.NY.NO"] := by
  decide

/-! ## WellFormed: an ill-formed term for each check, which the check refuses -/

/-- A well-formed presentation of x = 1, y = 2 and `000010`. -/
def goodStimulus : Stimulus := { x := wordLevels 0x0001#16, y := wordLevels 0x0002#16, control := wordLevels 0b000010#6 }

theorem test_wellFormed_accepts : goodStimulus.wellFormed = true := by decide

theorem test_wellFormed_refuses_width_of_x :
    { goodStimulus with x := .low :: goodStimulus.x }.wellFormed = false := by decide

theorem test_wellFormed_refuses_width_of_y :
    { goodStimulus with y := goodStimulus.y.tail }.wellFormed = false := by decide

theorem test_wellFormed_refuses_width_of_control :
    { goodStimulus with control := .high :: goodStimulus.control }.wellFormed = false := by decide

theorem test_wellFormed_refuses_level_on_x :
    { goodStimulus with x := .nonLogic :: goodStimulus.x.tail }.wellFormed = false := by decide

theorem test_wellFormed_refuses_level_on_y :
    { goodStimulus with y := .nonLogic :: goodStimulus.y.tail }.wellFormed = false := by decide

theorem test_wellFormed_refuses_level_on_control :
    { goodStimulus with control := .nonLogic :: goodStimulus.control.tail }.wellFormed = false := by decide

theorem test_wellFormed_every_instruction : Instr.wellFormed .add = true := by decide

/-! ## Presenting levels (10_state.md R31; 70_reset_and_hazards.md R244) -/

theorem test_port_reads_bit_zero_first :
    (match readPort 4 [.high, .low, .low, .low] with | .ok v => v == 1#4 | .error _ => false) = true := by decide

theorem test_drive_takes_words : State.reset.drive goodStimulus = .next (State.reset.presentAlu 1#16 2#16 2#6) := rfl

theorem test_drive_refuses_nonLogic_level :
    State.reset.drive { goodStimulus with y := .nonLogic :: goodStimulus.y.tail } = .refused .nonLogicLevel := rfl

theorem test_drive_refuses_width :
    State.reset.drive { goodStimulus with control := .high :: goodStimulus.control } = .refused .widthViolation := rfl

theorem test_driveIncrementer_refuses_nonLogic_level :
    State.reset.driveIncrementer (.nonLogic :: wordLevels 0#15) = .refused .nonLogicLevel := rfl

/-! ## The source's end-to-end vectors E1 to E8, x = 1, y = 2 (95_test_vectors.md 1.2) -/

theorem test_source_vectors :
    outputs 0b000010 1 2 = some (0x0003, false, false) ∧ outputs 0b000000 1 2 = some (0x0000, true, false) ∧
    outputs 0b100010 1 2 = some (0x0002, false, false) ∧ outputs 0b001010 1 2 = some (0x0001, false, false) ∧
    outputs 0b100110 1 2 = some (0xFFFD, false, true) ∧ outputs 0b011010 1 2 = some (0xFFFE, false, true) ∧
    outputs 0b101010 1 2 = some (0x0000, true, false) ∧ outputs 0b101001 1 2 = some (0xFFFF, false, true) := by decide

/-! ## Every control word on two operand pairs of 95_test_vectors.md 2.6 -/

theorem test_and : outputs 0b000000 0x0F0F 0x00FF = some (0x000F, false, false) ∧
    outputs 0b000000 0x8000 0xFFFF = some (0x8000, false, true) := by decide

theorem test_andNo : outputs 0b000001 0x0F0F 0x00FF = some (0xFFF0, false, true) ∧
    outputs 0b000001 0x8000 0xFFFF = some (0x7FFF, false, false) := by decide

theorem test_add : outputs 0b000010 0x0F0F 0x00FF = some (0x100E, false, false) ∧
    outputs 0b000010 0x8000 0xFFFF = some (0x7FFF, false, false) := by decide

theorem test_addNo : outputs 0b000011 0x0F0F 0x00FF = some (0xEFF1, false, true) ∧
    outputs 0b000011 0x8000 0xFFFF = some (0x8000, false, true) := by decide

theorem test_andNy : outputs 0b000100 0x0F0F 0x00FF = some (0x0F00, false, false) ∧
    outputs 0b000100 0x8000 0xFFFF = some (0x0000, true, false) := by decide

theorem test_andNyNo : outputs 0b000101 0x0F0F 0x00FF = some (0xF0FF, false, true) ∧
    outputs 0b000101 0x8000 0xFFFF = some (0xFFFF, false, true) := by decide

theorem test_addNy : outputs 0b000110 0x0F0F 0x00FF = some (0x0E0F, false, false) ∧
    outputs 0b000110 0x8000 0xFFFF = some (0x8000, false, true) := by decide

theorem test_addNyNo : outputs 0b000111 0x0F0F 0x00FF = some (0xF1F0, false, true) ∧
    outputs 0b000111 0x8000 0xFFFF = some (0x7FFF, false, false) := by decide

theorem test_andZy : outputs 0b001000 0x0F0F 0x00FF = some (0x0000, true, false) ∧
    outputs 0b001000 0x8000 0xFFFF = some (0x0000, true, false) := by decide

theorem test_andZyNo : outputs 0b001001 0x0F0F 0x00FF = some (0xFFFF, false, true) ∧
    outputs 0b001001 0x8000 0xFFFF = some (0xFFFF, false, true) := by decide

theorem test_addZy : outputs 0b001010 0x0F0F 0x00FF = some (0x0F0F, false, false) ∧
    outputs 0b001010 0x8000 0xFFFF = some (0x8000, false, true) := by decide

theorem test_addZyNo : outputs 0b001011 0x0F0F 0x00FF = some (0xF0F0, false, true) ∧
    outputs 0b001011 0x8000 0xFFFF = some (0x7FFF, false, false) := by decide

theorem test_andZyNy : outputs 0b001100 0x0F0F 0x00FF = some (0x0F0F, false, false) ∧
    outputs 0b001100 0x8000 0xFFFF = some (0x8000, false, true) := by decide

theorem test_andZyNyNo : outputs 0b001101 0x0F0F 0x00FF = some (0xF0F0, false, true) ∧
    outputs 0b001101 0x8000 0xFFFF = some (0x7FFF, false, false) := by decide

theorem test_addZyNy : outputs 0b001110 0x0F0F 0x00FF = some (0x0F0E, false, false) ∧
    outputs 0b001110 0x8000 0xFFFF = some (0x7FFF, false, false) := by decide

theorem test_addZyNyNo : outputs 0b001111 0x0F0F 0x00FF = some (0xF0F1, false, true) ∧
    outputs 0b001111 0x8000 0xFFFF = some (0x8000, false, true) := by decide

theorem test_andNx : outputs 0b010000 0x0F0F 0x00FF = some (0x00F0, false, false) ∧
    outputs 0b010000 0x8000 0xFFFF = some (0x7FFF, false, false) := by decide

theorem test_andNxNo : outputs 0b010001 0x0F0F 0x00FF = some (0xFF0F, false, true) ∧
    outputs 0b010001 0x8000 0xFFFF = some (0x8000, false, true) := by decide

theorem test_addNx : outputs 0b010010 0x0F0F 0x00FF = some (0xF1EF, false, true) ∧
    outputs 0b010010 0x8000 0xFFFF = some (0x7FFE, false, false) := by decide

theorem test_addNxNo : outputs 0b010011 0x0F0F 0x00FF = some (0x0E10, false, false) ∧
    outputs 0b010011 0x8000 0xFFFF = some (0x8001, false, true) := by decide

theorem test_andNxNy : outputs 0b010100 0x0F0F 0x00FF = some (0xF000, false, true) ∧
    outputs 0b010100 0x8000 0xFFFF = some (0x0000, true, false) := by decide

theorem test_andNxNyNo : outputs 0b010101 0x0F0F 0x00FF = some (0x0FFF, false, false) ∧
    outputs 0b010101 0x8000 0xFFFF = some (0xFFFF, false, true) := by decide

theorem test_addNxNy : outputs 0b010110 0x0F0F 0x00FF = some (0xEFF0, false, true) ∧
    outputs 0b010110 0x8000 0xFFFF = some (0x7FFF, false, false) := by decide

theorem test_addNxNyNo : outputs 0b010111 0x0F0F 0x00FF = some (0x100F, false, false) ∧
    outputs 0b010111 0x8000 0xFFFF = some (0x8000, false, true) := by decide

theorem test_andNxZy : outputs 0b011000 0x0F0F 0x00FF = some (0x0000, true, false) ∧
    outputs 0b011000 0x8000 0xFFFF = some (0x0000, true, false) := by decide

theorem test_andNxZyNo : outputs 0b011001 0x0F0F 0x00FF = some (0xFFFF, false, true) ∧
    outputs 0b011001 0x8000 0xFFFF = some (0xFFFF, false, true) := by decide

theorem test_addNxZy : outputs 0b011010 0x0F0F 0x00FF = some (0xF0F0, false, true) ∧
    outputs 0b011010 0x8000 0xFFFF = some (0x7FFF, false, false) := by decide

theorem test_addNxZyNo : outputs 0b011011 0x0F0F 0x00FF = some (0x0F0F, false, false) ∧
    outputs 0b011011 0x8000 0xFFFF = some (0x8000, false, true) := by decide

theorem test_andNxZyNy : outputs 0b011100 0x0F0F 0x00FF = some (0xF0F0, false, true) ∧
    outputs 0b011100 0x8000 0xFFFF = some (0x7FFF, false, false) := by decide

theorem test_andNxZyNyNo : outputs 0b011101 0x0F0F 0x00FF = some (0x0F0F, false, false) ∧
    outputs 0b011101 0x8000 0xFFFF = some (0x8000, false, true) := by decide

theorem test_addNxZyNy : outputs 0b011110 0x0F0F 0x00FF = some (0xF0EF, false, true) ∧
    outputs 0b011110 0x8000 0xFFFF = some (0x7FFE, false, false) := by decide

theorem test_addNxZyNyNo : outputs 0b011111 0x0F0F 0x00FF = some (0x0F10, false, false) ∧
    outputs 0b011111 0x8000 0xFFFF = some (0x8001, false, true) := by decide

theorem test_andZx : outputs 0b100000 0x0F0F 0x00FF = some (0x0000, true, false) ∧
    outputs 0b100000 0x8000 0xFFFF = some (0x0000, true, false) := by decide

theorem test_andZxNo : outputs 0b100001 0x0F0F 0x00FF = some (0xFFFF, false, true) ∧
    outputs 0b100001 0x8000 0xFFFF = some (0xFFFF, false, true) := by decide

theorem test_addZx : outputs 0b100010 0x0F0F 0x00FF = some (0x00FF, false, false) ∧
    outputs 0b100010 0x8000 0xFFFF = some (0xFFFF, false, true) := by decide

theorem test_addZxNo : outputs 0b100011 0x0F0F 0x00FF = some (0xFF00, false, true) ∧
    outputs 0b100011 0x8000 0xFFFF = some (0x0000, true, false) := by decide

theorem test_andZxNy : outputs 0b100100 0x0F0F 0x00FF = some (0x0000, true, false) ∧
    outputs 0b100100 0x8000 0xFFFF = some (0x0000, true, false) := by decide

theorem test_andZxNyNo : outputs 0b100101 0x0F0F 0x00FF = some (0xFFFF, false, true) ∧
    outputs 0b100101 0x8000 0xFFFF = some (0xFFFF, false, true) := by decide

theorem test_addZxNy : outputs 0b100110 0x0F0F 0x00FF = some (0xFF00, false, true) ∧
    outputs 0b100110 0x8000 0xFFFF = some (0x0000, true, false) := by decide

theorem test_addZxNyNo : outputs 0b100111 0x0F0F 0x00FF = some (0x00FF, false, false) ∧
    outputs 0b100111 0x8000 0xFFFF = some (0xFFFF, false, true) := by decide

theorem test_andZxZy : outputs 0b101000 0x0F0F 0x00FF = some (0x0000, true, false) ∧
    outputs 0b101000 0x8000 0xFFFF = some (0x0000, true, false) := by decide

theorem test_andZxZyNo : outputs 0b101001 0x0F0F 0x00FF = some (0xFFFF, false, true) ∧
    outputs 0b101001 0x8000 0xFFFF = some (0xFFFF, false, true) := by decide

theorem test_addZxZy : outputs 0b101010 0x0F0F 0x00FF = some (0x0000, true, false) ∧
    outputs 0b101010 0x8000 0xFFFF = some (0x0000, true, false) := by decide

theorem test_addZxZyNo : outputs 0b101011 0x0F0F 0x00FF = some (0xFFFF, false, true) ∧
    outputs 0b101011 0x8000 0xFFFF = some (0xFFFF, false, true) := by decide

theorem test_andZxZyNy : outputs 0b101100 0x0F0F 0x00FF = some (0x0000, true, false) ∧
    outputs 0b101100 0x8000 0xFFFF = some (0x0000, true, false) := by decide

theorem test_andZxZyNyNo : outputs 0b101101 0x0F0F 0x00FF = some (0xFFFF, false, true) ∧
    outputs 0b101101 0x8000 0xFFFF = some (0xFFFF, false, true) := by decide

theorem test_addZxZyNy : outputs 0b101110 0x0F0F 0x00FF = some (0xFFFF, false, true) ∧
    outputs 0b101110 0x8000 0xFFFF = some (0xFFFF, false, true) := by decide

theorem test_addZxZyNyNo : outputs 0b101111 0x0F0F 0x00FF = some (0x0000, true, false) ∧
    outputs 0b101111 0x8000 0xFFFF = some (0x0000, true, false) := by decide

theorem test_andZxNx : outputs 0b110000 0x0F0F 0x00FF = some (0x00FF, false, false) ∧
    outputs 0b110000 0x8000 0xFFFF = some (0xFFFF, false, true) := by decide

theorem test_andZxNxNo : outputs 0b110001 0x0F0F 0x00FF = some (0xFF00, false, true) ∧
    outputs 0b110001 0x8000 0xFFFF = some (0x0000, true, false) := by decide

theorem test_addZxNx : outputs 0b110010 0x0F0F 0x00FF = some (0x00FE, false, false) ∧
    outputs 0b110010 0x8000 0xFFFF = some (0xFFFE, false, true) := by decide

theorem test_addZxNxNo : outputs 0b110011 0x0F0F 0x00FF = some (0xFF01, false, true) ∧
    outputs 0b110011 0x8000 0xFFFF = some (0x0001, false, false) := by decide

theorem test_andZxNxNy : outputs 0b110100 0x0F0F 0x00FF = some (0xFF00, false, true) ∧
    outputs 0b110100 0x8000 0xFFFF = some (0x0000, true, false) := by decide

theorem test_andZxNxNyNo : outputs 0b110101 0x0F0F 0x00FF = some (0x00FF, false, false) ∧
    outputs 0b110101 0x8000 0xFFFF = some (0xFFFF, false, true) := by decide

theorem test_addZxNxNy : outputs 0b110110 0x0F0F 0x00FF = some (0xFEFF, false, true) ∧
    outputs 0b110110 0x8000 0xFFFF = some (0xFFFF, false, true) := by decide

theorem test_addZxNxNyNo : outputs 0b110111 0x0F0F 0x00FF = some (0x0100, false, false) ∧
    outputs 0b110111 0x8000 0xFFFF = some (0x0000, true, false) := by decide

theorem test_andZxNxZy : outputs 0b111000 0x0F0F 0x00FF = some (0x0000, true, false) ∧
    outputs 0b111000 0x8000 0xFFFF = some (0x0000, true, false) := by decide

theorem test_andZxNxZyNo : outputs 0b111001 0x0F0F 0x00FF = some (0xFFFF, false, true) ∧
    outputs 0b111001 0x8000 0xFFFF = some (0xFFFF, false, true) := by decide

theorem test_addZxNxZy : outputs 0b111010 0x0F0F 0x00FF = some (0xFFFF, false, true) ∧
    outputs 0b111010 0x8000 0xFFFF = some (0xFFFF, false, true) := by decide

theorem test_addZxNxZyNo : outputs 0b111011 0x0F0F 0x00FF = some (0x0000, true, false) ∧
    outputs 0b111011 0x8000 0xFFFF = some (0x0000, true, false) := by decide

theorem test_andZxNxZyNy : outputs 0b111100 0x0F0F 0x00FF = some (0xFFFF, false, true) ∧
    outputs 0b111100 0x8000 0xFFFF = some (0xFFFF, false, true) := by decide

theorem test_andZxNxZyNyNo : outputs 0b111101 0x0F0F 0x00FF = some (0x0000, true, false) ∧
    outputs 0b111101 0x8000 0xFFFF = some (0x0000, true, false) := by decide

theorem test_addZxNxZyNy : outputs 0b111110 0x0F0F 0x00FF = some (0xFFFE, false, true) ∧
    outputs 0b111110 0x8000 0xFFFF = some (0xFFFE, false, true) := by decide

theorem test_addZxNxZyNyNo : outputs 0b111111 0x0F0F 0x00FF = some (0x0001, false, false) ∧
    outputs 0b111111 0x8000 0xFFFF = some (0x0001, false, false) := by decide

/-! ## The identity (00_scope.md R3, 92_eei_decisions.md D17) -/

theorem test_identity :
    Config.identity = ⟨"Insper", "bits-e-proc-proj-ula ALU core", none, [], "v7 (requester's label)", none⟩ := by decide

/-! ## Corner cases of 95_test_vectors.md 2.7 -/

theorem test_corner_cases_of_add :
    outputs 0b000010 0xFFFF 0x0001 = some (0x0000, true, false) ∧
    outputs 0b000010 0x7FFF 0x0001 = some (0x8000, false, true) ∧
    outputs 0b010011 0x8000 0x0001 = some (0x7FFF, false, false) ∧
    outputs 0b010011 0x1234 0x1234 = some (0x0000, true, false) ∧
    outputs 0b001111 0x8000 0x5555 = some (0x8000, false, true) ∧
    outputs 0b001111 0x0000 0x5555 = some (0x0000, true, false) := by decide

theorem test_corner_cases_of_the_rest :
    outputs 0b011111 0xFFFF 0x5555 = some (0x0000, true, false) ∧
    outputs 0b001110 0x0000 0x5555 = some (0xFFFF, false, true) ∧
    outputs 0b111010 0x5555 0xAAAA = some (0xFFFF, false, true) ∧
    outputs 0b001100 0x8001 0x5555 = some (0x8001, false, true) ∧
    outputs 0b010101 0x00F0 0x0F00 = some (0x0FF0, false, false) ∧
    outputs 0b000001 0xFFFF 0xFFFF = some (0x0000, true, false) := by decide

/-! ## The sub-blocks (95_test_vectors.md 2.1 to 2.5) -/

theorem test_zeroer : zeroer false 0xFFFF = 0xFFFF ∧ zeroer false 0x8001 = 0x8001 ∧ zeroer true 0xFFFF = 0x0000 := by decide

theorem test_inverter :
    inverter false 0x1234 = 0x1234 ∧ inverter true 0x8000 = 0x7FFF ∧ inverter true 0x00FF = 0xFF00 ∧
    inverter true (inverter true 0xA5C3) = 0xA5C3 := by decide

theorem test_adder :
    adder 0xFFFF 0x0001 = 0x0000 ∧ adder 0x7FFF 0x0001 = 0x8000 ∧ adder 0x8000 0x8000 = 0x0000 ∧
    adder 0xFFFF 0xFFFF = 0xFFFE ∧ adder 0x5555 0xAAAA = 0xFFFF ∧ adder 0x00FF 0x0001 = 0x0100 := by decide

/-- The ripple check of 95_test_vectors.md 2.3 for 0x00FF + 0x0001: c[1] to c[8] are 1, c[9] is 0, only bit 8 is set. -/
theorem test_ripple :
    (List.range 10).map (carry 0x00FF 0x0001) = [false, true, true, true, true, true, true, true, true, false] ∧
    (List.range 16).filter (rippleBit 0x00FF 0x0001) = [8] := by decide

/-- 95_test_vectors.md section 3, program 5. -/
theorem test_incrementer_chain :
    incrementer 0xFFFE = 0xFFFF ∧ incrementer (incrementer 0xFFFE) = 0x0000 ∧
    incrementer (incrementer (incrementer 0xFFFE)) = 0x0001 := by decide

theorem test_comparator :
    comparator 0x0000 = ⟨true, false⟩ ∧ comparator 0x0001 = ⟨false, false⟩ ∧ comparator 0x7FFF = ⟨false, false⟩ ∧
    comparator 0x8000 = ⟨false, true⟩ ∧ comparator 0xFFFF = ⟨false, true⟩ := by decide

/-! ## Witnesses: states and operands that meet the hypotheses of the statements -/

/-- A settled state: `AND` of 0x0F0F and 0x00FF on the ALU, and a sub-block each with its settled output (expected values
from 95_test_vectors.md 2.1 to 2.6). -/
def settledState : State where
  x := 0x0F0F
  y := 0x00FF
  control := 0b000000
  result := 0x000F
  zero := false
  negative := false
  settling := 0
  zeroerBlock := { enable := true, input := 0x8001, output := 0x0000, settling := 0 }
  inverterBlock := { enable := true, input := 0x8000, output := 0x7FFF, settling := 0 }
  adderBlock := { a := 0xFFFF, b := 0x0001, sum := 0x0000, settling := 0 }
  incrementerBlock := { a := 0x7FFF, output := 0x8000, settling := 0 }
  comparatorBlock := { a := 0x8000, zero := false, negative := true, settling := 0 }
  ticks := 7

theorem witness_coherent_state_steps :
    Coherent settledState ∧ ∃ t, step settledState = .next t := by
  refine ⟨⟨⟨Nat.zero_le _, fun _ => by unfold OutputsAreAlu; decide⟩, ⟨Nat.zero_le _, fun _ => by decide⟩,
    ⟨Nat.zero_le _, fun _ => by decide⟩, ⟨Nat.zero_le _, fun _ => by decide⟩, ⟨Nat.zero_le _, fun _ => by decide⟩,
    ⟨Nat.zero_le _, fun _ => by decide⟩⟩, ?_⟩
  exact ⟨_, step_settled rfl⟩

theorem witness_coherence_can_fail : ¬Coherent { settledState with result := 0x0010 } := by
  intro h
  exact absurd (h.1.2 rfl) (by unfold OutputsAreAlu; decide)

theorem witness_add_family_word : (0b000010#6).getLsbD 1 = true := by decide

theorem witness_and_family_word : (0b000000#6).getLsbD 1 = false := by decide

theorem witness_same_mnemonic : (Instr.add).mnemonic = (Instr.add).mnemonic := rfl

theorem witness_bit_fifteen : 15 < 16 ∧ rippleBit 0x7FFF 0x0001 15 = true := by decide

/-- Fields that meet each premise of the operand and function tables, and the value at x = 0x1234, y = 0x00FF. -/
theorem witness_field_pairs :
    conditionX ⟨false, false, false, false, true, true⟩ 0x1234 = 0x1234 ∧
    conditionX ⟨false, true, false, true, false, false⟩ 0x1234 = 0xEDCB ∧
    conditionX ⟨true, false, true, false, true, true⟩ 0x1234 = 0x0000 ∧
    conditionX ⟨true, true, true, true, false, false⟩ 0x1234 = 0xFFFF ∧
    conditionY ⟨false, false, false, false, true, true⟩ 0x00FF = 0x00FF ∧
    conditionY ⟨false, true, false, true, false, false⟩ 0x00FF = 0xFF00 ∧
    conditionY ⟨true, false, true, false, true, true⟩ 0x00FF = 0x0000 ∧
    conditionY ⟨true, true, true, true, false, false⟩ 0x00FF = 0xFFFF ∧
    selectFunction ⟨false, false, false, false, true, true⟩ 0x1234 0x00FF = 0x1333 ∧
    selectFunction ⟨false, true, false, true, false, false⟩ 0x1234 0x00FF = 0x0034 := by decide

/-- The flag pairs at the boundaries of their ranges (R100). -/
theorem witness_flag_ranges :
    (0x8000 ≤ (0x8000#16).toNat ∧ comparator 0x8000 = ⟨false, true⟩) ∧
    (1 ≤ (0x0001#16).toNat ∧ comparator 0x0001 = ⟨false, false⟩) ∧
    ((0x7FFF#16).toNat ≤ 0x7FFF ∧ comparator 0x7FFF = ⟨false, false⟩) ∧ comparator 0x0000 = ⟨true, false⟩ := by decide

/-- Both sides of both exactness bounds (R90). -/
theorem witness_exactness_bounds :
    ((adder 0xFFFE 0x0001).toNat = 65535 ∧ (adder 0xFFFF 0x0001).toNat = 0) ∧
    ((adder 0x7FFE 0x0001).toInt = 32767 ∧ (adder 0x7FFF 0x0001).toInt = -32768) ∧
    ((adder 0x8001 0xFFFF).toInt = -32768 ∧ (adder 0x8000 0xFFFF).toInt = 32767) := by decide

/-- Two states with the same inputs that differ in everything else, one at each end of the premise `settling ≤ 1`. -/
theorem witness_same_inputs_different_states :
    SameInputs settledState { settledState with settling := 1, result := 0xAAAA, zero := true, ticks := 0 } ∧
    settledState.settling ≤ 1 ∧ { settledState with settling := 1 }.settling ≤ 1 := by
  exact ⟨⟨rfl, rfl, rfl⟩, by decide, by decide⟩

theorem witness_step_runs_decoded :
    settledState.control = encode .and ∧ (Instr.and).wellFormed = true ∧ settledState.settling ≤ 1 ∧
    { settledState with settling := 1, control := 0b111111 }.control = encode .addZxNxZyNyNo := by decide

theorem witness_window_step : 1 < { settledState with settling := 2 }.settling := by decide

/-- The same premise, `1 < settling`, at each sub-block: the smallest window that is still open after the step. -/
theorem witness_open_block_windows :
    1 < { settledState.zeroerBlock with settling := 2 }.settling ∧
    1 < { settledState.inverterBlock with settling := 2 }.settling ∧
    1 < { settledState.adderBlock with settling := 2 }.settling ∧
    1 < { settledState.incrementerBlock with settling := 2 }.settling ∧
    1 < { settledState.comparatorBlock with settling := 2 }.settling := by decide

theorem witness_stable_inputs : 0 < 1 ∧ { settledState with settling := 1 }.settling ≤ 1 ∧ settledState.settling ≤ 1 := by
  decide

theorem witness_presented_inputs : State.reset.settling ≤ Config.tPd ∧ settledState.settling ≤ Config.tPd :=
  ⟨Nat.le_refl _, Nat.zero_le _⟩

theorem witness_changed_input :
    ¬((0x0F0E : Word) = settledState.x ∧ (0x00FF : Word) = settledState.y ∧ (0 : Control) = settledState.control) := by
  decide

theorem witness_ill_formed_level :
    let p := { goodStimulus with control := .nonLogic :: goodStimulus.control.tail }
    p.x.length = 16 ∧ p.y.length = 16 ∧ p.control.length = 6 ∧ p.wellFormed = false := by decide

theorem witness_ill_formed_width :
    let p := { goodStimulus with control := .high :: goodStimulus.control }
    (∀ l ∈ p.x ++ p.y ++ p.control, l.isLogic = true) ∧
      ¬(p.x.length = 16 ∧ p.y.length = 16 ∧ p.control.length = 6) := by decide

/-- A new level at each sub-block of `settledState`. -/
theorem witness_changed_block_inputs :
    ¬(false = settledState.zeroerBlock.enable ∧ (0x8001 : Word) = settledState.zeroerBlock.input) ∧
    ¬(true = settledState.inverterBlock.enable ∧ (0x8001 : Word) = settledState.inverterBlock.input) ∧
    ¬((0xFFFF : Word) = settledState.adderBlock.a ∧ (0x0002 : Word) = settledState.adderBlock.b) ∧
    (0xFFFF : Word) ≠ settledState.incrementerBlock.a ∧ (0xFFFF : Word) ≠ settledState.comparatorBlock.a := by decide

/-- A window that ends with the step, and sub-blocks at both values of the premise `settling ≤ 1`. -/
theorem witness_block_windows :
    settledState.zeroerBlock.settling ≤ 1 ∧ { settledState.adderBlock with settling := 1 }.settling ≤ 1 ∧
    (tickAdder 0 { settledState.adderBlock with settling := 1, sum := 0x1111 }).sum = 0x0000 ∧
    (tickIncrementer 0 { settledState.incrementerBlock with settling := 1, output := 0x1111 }).output = 0x8000 := by decide

end Sys2Proof.Tests
end

section
/-!
PROOFS. The encoding (30_encoding.md): fields and instructions name each other, a control word's bits are its
instruction's fields, and a mnemonic can be read back into the fields it was made from.
-/

namespace Sys2Proof

open Sys2Proof.Machine

/-! ## Instructions, fields and control words -/

/-- R67: an instruction is found again from the fields its rule lists. -/
@[simp] theorem Instr.ofFields_fields (i : Instr) : Instr.ofFields i.fields = i := by
  cases i <;> rfl

theorem Instr.fields_injective : Function.Injective Instr.fields :=
  Function.LeftInverse.injective Instr.ofFields_fields

/-- R61: every instruction's listed fields are the bits of its control word. -/
@[simp] theorem Fields.ofControl_encode (i : Instr) : Fields.ofControl (encode i) = i.fields := by
  cases i <;> rfl

/-- R63, R67: decoding undoes encoding. -/
@[simp] theorem decode_encode (i : Instr) : decode (encode i) = i := by
  rw [decode, Fields.ofControl_encode, Instr.ofFields_fields]

/-! ## The stages over the bits of a control word -/

theorem conditionX_ofControl (c : Control) (x : Word) :
    conditionX (Fields.ofControl c) x =
      let x1 := if c.getLsbD 5 then 0x0000#16 else x
      if c.getLsbD 4 then ~~~x1 else x1 := rfl

theorem conditionY_ofControl (c : Control) (y : Word) :
    conditionY (Fields.ofControl c) y =
      let y1 := if c.getLsbD 3 then 0x0000#16 else y
      if c.getLsbD 2 then ~~~y1 else y1 := rfl

/-- R113 with the Adder read as addition of words (R87). -/
theorem selectFunction_eq (f : Fields) (x2 y2 : Word) :
    selectFunction f x2 y2 = if f.useAdd then x2 + y2 else x2 &&& y2 := by
  rw [selectFunction, adder_eq_add]

/-- R114: the last stage passes or complements what the function selector gives. -/
theorem aluResult_eq (f : Fields) (x y : Word) :
    aluResult f x y =
      let pre := selectFunction f (conditionX f x) (conditionY f y)
      if f.negateOutput then ~~~pre else pre := rfl

/-! ## Mnemonics -/

/-- The characters of `part` stand next to each other somewhere in `m`. -/
def occursIn (part m : String) : Bool := decide (part.toList <:+: m.toList)

/-- A mnemonic read back: a field is 1 when its suffix, or for useAdd the base `ADD`, occurs in the text (R68). -/
def Fields.ofMnemonic (m : String) : Fields where
  zeroX := occursIn ".ZX" m
  negateX := occursIn ".NX" m
  zeroY := occursIn ".ZY" m
  negateY := occursIn ".NY" m
  useAdd := occursIn "ADD" m
  negateOutput := occursIn ".NO" m

/-- No part of a mnemonic occurs across the border of two others, so reading back gives the same fields. -/
theorem Fields.ofMnemonic_mnemonic (f : Fields) : Fields.ofMnemonic f.mnemonic = f := by
  obtain ⟨zeroX, negateX, zeroY, negateY, useAdd, negateOutput⟩ := f
  revert zeroX negateX zeroY negateY useAdd negateOutput
  decide

/-- R68: "every mnemonic one control word". -/
theorem Instr.mnemonic_injective : Function.Injective Instr.mnemonic :=
  (Function.LeftInverse.injective Fields.ofMnemonic_mnemonic).comp Instr.fields_injective

/-- R68: an instruction's mnemonic is the one of the bits of its control word. -/
theorem Instr.mnemonic_eq_ofControl (i : Instr) : i.mnemonic = (Fields.ofControl (encode i)).mnemonic := by
  rw [Instr.mnemonic, Fields.ofControl_encode]

/-! ## The obligations -/

/-- Settles O14: the mnemonic is read off the bits of the control word, and it can be read back. -/
theorem mnemonicsNameControlWords : Obligations.MnemonicsNameControlWords := by
  unfold Obligations.MnemonicsNameControlWords
  exact ⟨Instr.mnemonic_eq_ofControl, fun _ _ same => Instr.mnemonic_injective same⟩

/-- Settles O11: one stage lemma per row of R61's table. -/
theorem controlWordLayout : Obligations.ControlWordLayout := by
  unfold Obligations.ControlWordLayout
  exact ⟨fun _ => rfl, Fields.ofControl_encode, conditionX_ofControl, conditionY_ofControl,
    fun c => selectFunction_eq (Fields.ofControl c), fun c => aluResult_eq (Fields.ofControl c)⟩

/-- Settles O12: each word is the encoding of the instruction named beside it. -/
theorem sourceControlWordsDecode : Obligations.SourceControlWordsDecode := by
  unfold Obligations.SourceControlWordsDecode
  exact ⟨decode_encode .add, rfl, decode_encode .addZx, rfl, decode_encode .addZy, rfl,
    decode_encode .addZxNy, rfl, decode_encode .addNxZy, rfl, decode_encode .addZxZy, rfl,
    decode_encode .andZxZyNo, rfl, decode_encode .and, rfl⟩

end Sys2Proof
end

section
/-!
PROOFS. The sub-blocks (40_components.md): the Zeroer and the Inverter by the value of `enable`, the Adder and the
Incrementer as unsigned sums mod 65536, and the Comparator's negative flag as the two's-complement sign.
-/

namespace Sys2Proof

open Sys2Proof.Machine

/-! ## Zeroer and Inverter -/

@[simp] theorem zeroer_true (v : Word) : zeroer true v = 0x0000#16 := rfl

@[simp] theorem zeroer_false (v : Word) : zeroer false v = v := rfl

@[simp] theorem inverter_true (v : Word) : inverter true v = ~~~v := rfl

@[simp] theorem inverter_false (v : Word) : inverter false v = v := rfl

/-- R83: "`~a` is `0xFFFF - a`", the subtraction being one of 16-bit words. -/
theorem inverter_true_eq_sub (v : Word) : inverter true v = 0xFFFF#16 - v :=
  (inverter_true v).trans (BitVec.allOnes_sub_eq_not v).symm

/-! ## The stages of the ALU that use them -/

theorem conditionX_eq_inverter_zeroer (f : Fields) (x : Word) :
    conditionX f x = inverter f.negateX (zeroer f.zeroX x) := rfl

theorem conditionY_eq_inverter_zeroer (f : Fields) (y : Word) :
    conditionY f y = inverter f.negateY (zeroer f.zeroY y) := rfl

theorem aluResult_eq_inverter_selectFunction (f : Fields) (x y : Word) :
    aluResult f x y = inverter f.negateOutput (selectFunction f (conditionX f x) (conditionY f y)) := rfl

/-! ## Adder and Incrementer -/

/-- R87: the carry out of bit 15 is discarded. -/
theorem adder_toNat (a b : Word) : (adder a b).toNat = (a.toNat + b.toNat) % 65536 := by
  rw [adder_eq_add, BitVec.toNat_add]

/-- R93, R94: the Adder with one operand fixed to 1. -/
theorem incrementer_eq_adder (a : Word) : incrementer a = adder a 0x0001#16 := rfl

theorem incrementer_toNat (a : Word) : (incrementer a).toNat = (a.toNat + 1) % 65536 :=
  adder_toNat a 0x0001#16

/-! ## Comparator -/

theorem comparator_zero_iff (a : Word) : (comparator a).zero = true ↔ a = 0x0000#16 := by
  rw [comparator_zero, decide_eq_true_iff]

/-- R97: the negative flag is the most significant bit of the word. -/
theorem comparator_negative_eq_msb (a : Word) : (comparator a).negative = a.msb :=
  (BitVec.msb_eq_getLsbD_last a).symm

/-- R99: the flag "reads 1 exactly when sint(a) < 0". -/
theorem comparator_negative_iff (a : Word) : (comparator a).negative = true ↔ a.toInt < 0 := by
  rw [comparator_negative_eq_msb, BitVec.msb_eq_toInt, decide_eq_true_iff]

/-! ## The obligations -/

/-- Settles O1: the Zeroer by cases on `enable`, and the first half of each operand's stage. -/
theorem zeroerZeroesOrPasses : Obligations.ZeroerZeroesOrPasses := by
  unfold Obligations.ZeroerZeroesOrPasses
  refine ⟨fun e v => ?_, conditionX_eq_inverter_zeroer, conditionY_eq_inverter_zeroer⟩
  cases e with
  | true => exact zeroer_true v
  | false => exact zeroer_false v

/-- Settles O2: the Inverter by cases on `enable`, and its three places in the ALU. -/
theorem inverterComplementsOrPasses : Obligations.InverterComplementsOrPasses := by
  unfold Obligations.InverterComplementsOrPasses
  refine ⟨fun e v => ?_, inverter_true_eq_sub, inverter_false, conditionX_eq_inverter_zeroer,
    conditionY_eq_inverter_zeroer, aluResult_eq_inverter_selectFunction⟩
  cases e with
  | true => exact inverter_true v
  | false => exact inverter_false v

/-- Settles O3: addition of 16-bit words wraps at 65536. -/
theorem adderSumsModulo65536 : Obligations.AdderSumsModulo65536 := by
  unfold Obligations.AdderSumsModulo65536
  exact fun a b => ⟨adder_toNat a b, adder_eq_add a b⟩

/-- Settles O4: the Incrementer inherits the Adder's wrap. -/
theorem incrementerAddsOne : Obligations.IncrementerAddsOne := by
  unfold Obligations.IncrementerAddsOne
  exact fun a => ⟨incrementer_eq_adder a, incrementer_toNat a⟩

/-- Settles O5: bit 15 is the sign bit of the two's-complement reading. -/
theorem comparatorReadsZeroAndSign : Obligations.ComparatorReadsZeroAndSign := by
  unfold Obligations.ComparatorReadsZeroAndSign
  exact fun a => ⟨comparator_zero_iff a, comparator_negative a, comparator_negative_iff a⟩

end Sys2Proof
end

section
/-!
PROOFS. The ALU (41_alu.md): what an instruction or a control word shows is the result of the stages with the word's own
bits as fields, those stages with their flags are the complete function of R116, and what they compute when one operand
or both are zeroed.
-/

namespace Sys2Proof

open Sys2Proof.Machine

/-! ## The fields of a decoded word -/

/-- R67: the table names an instruction with exactly the fields it was asked for. -/
@[simp] theorem Instr.fields_ofFields (f : Fields) : (Instr.ofFields f).fields = f := by
  obtain ⟨zeroX, negateX, zeroY, negateY, useAdd, negateOutput⟩ := f
  revert zeroX negateX zeroY negateY useAdd negateOutput
  decide

/-- R61, R63: a decoded instruction lists the bits of the word it was decoded from. -/
@[simp] theorem fields_decode (c : Control) : (decode c).fields = Fields.ofControl c :=
  Instr.fields_ofFields (Fields.ofControl c)

/-! ## Instructions and control words as the stages of the ALU -/

/-- All a decoded control word can do. -/
theorem exec_decode (c : Control) (s : State) :
    exec (decode c) s = .next (showing (aluResult (Fields.ofControl c) s.x s.y) s) := by
  rw [exec_eq_next, fields_decode]

/-- All an instruction can do, its fields read off its control word. -/
theorem exec_eq_next_ofControl (i : Instr) (s : State) :
    exec i s = .next (showing (aluResult (Fields.ofControl (encode i)) s.x s.y) s) := by
  rw [exec_eq_next, Fields.ofControl_encode]

theorem computes_decode {c : Control} {f : Word → Word → Word}
    (stages : ∀ x y, aluResult (Fields.ofControl c) x y = f x y) : Computes (decode c) f := fun s => by
  rw [exec_decode, stages]

/-- R110, R116: the composition of the sub-blocks, with R115's flags, is the complete ALU function. -/
theorem alu_eq_aluResult (x y : Word) (c : Control) :
    alu x y c =
      let r := aluResult (Fields.ofControl c) x y
      (r, decide (r = 0x0000#16), r.getLsbD 15) := rfl

/-- R116 as an effect on the state: all that a decoded control word changes is the three outputs. -/
theorem exec_decode_eq_alu (c : Control) (s : State) :
    exec (decode c) s = .next { s with
      result := (alu s.x s.y c).1
      zero := (alu s.x s.y c).2.1
      negative := (alu s.x s.y c).2.2 } := by
  rw [exec_decode, alu_eq_aluResult, showing]

/-! ## The stages with zeroed operands (R121) -/

/-- Both operands zeroed and the output inverted: all ones, whichever function is selected. -/
theorem aluResult_zeroX_zeroY_negateOutput (useAdd : Bool) (x y : Word) :
    aluResult ⟨true, false, true, false, useAdd, true⟩ x y = 0xFFFF#16 := by
  cases useAdd with
  | true => calc
      _ = ~~~(adder 0x0000#16 0x0000#16) := rfl
      _ = 0xFFFF#16 := by rw [adder_eq_add]; rfl
  | false => calc
      _ = ~~~(0x0000#16 &&& 0x0000#16) := rfl
      _ = 0xFFFF#16 := rfl

/-- Adding to a zeroed x leaves the conditioned y. -/
theorem aluResult_zeroX_useAdd (negateY : Bool) (x y : Word) :
    aluResult ⟨true, false, false, negateY, true, false⟩ x y = inverter negateY y := calc
  _ = adder 0x0000#16 (inverter negateY y) := rfl
  _ = inverter negateY y := by rw [adder_eq_add, BitVec.zero_add]

/-- Adding a zeroed y leaves the conditioned x. -/
theorem aluResult_zeroY_useAdd (negateX : Bool) (x y : Word) :
    aluResult ⟨false, negateX, true, false, true, false⟩ x y = inverter negateX x := calc
  _ = adder (inverter negateX x) 0x0000#16 := rfl
  _ = inverter negateX x := by rw [adder_eq_add, BitVec.add_zero]

/-! ## The obligations -/

/-- Settles O16: the second half is the function of R116, and the first is the second at the instruction's own word. -/
theorem everyInstructionIsTheAluFunction : Obligations.EveryInstructionIsTheAluFunction := by
  unfold Obligations.EveryInstructionIsTheAluFunction
  refine ⟨fun i s => ?_, exec_decode_eq_alu⟩
  have own_word := exec_decode_eq_alu (encode i) s
  rwa [decode_encode] at own_word

/-- Settles O15: each stage's word is the output of that stage of the ALU, with the bits of the control word as fields. -/
theorem stagesFollowInOrder : Obligations.StagesFollowInOrder := by
  unfold Obligations.StagesFollowInOrder
  intro i s
  let f := Fields.ofControl (encode i)
  exact ⟨zeroer f.zeroX s.x, conditionX f s.x, zeroer f.zeroY s.y, conditionY f s.y,
    selectFunction f (conditionX f s.x) (conditionY f s.y), aluResult f s.x s.y, showing (aluResult f s.x s.y) s,
    rfl, conditionX_eq_inverter_zeroer f s.x, rfl, conditionY_eq_inverter_zeroer f s.y,
    rfl, aluResult_eq_inverter_selectFunction f s.x s.y,
    exec_eq_next_ofControl i s, showing_result _ s, showing_zero _ s, showing_negative _ s⟩

/-- Settles O19: the source's six words are the zeroed-operand forms, each with its free field at both values. -/
theorem sourceProseExamples : Obligations.SourceProseExamples := by
  unfold Obligations.SourceProseExamples
  exact ⟨computes_decode (aluResult_zeroX_zeroY_negateOutput false),
    computes_decode (aluResult_zeroX_zeroY_negateOutput true),
    computes_decode (aluResult_zeroX_useAdd false), computes_decode (aluResult_zeroY_useAdd false),
    computes_decode (aluResult_zeroY_useAdd true), computes_decode (aluResult_zeroX_useAdd true)⟩

end Sys2Proof
end

section
/-!
PROOFS. The encoding, the other way round (30_encoding.md): a control word is found again from the instruction it decodes
to, and a number is read as an instruction only if it is the value of that instruction's control word.
-/

namespace Sys2Proof

/-- R61: the six fields are all of the six bits. -/
theorem Fields.ofControl_injective : Function.Injective Fields.ofControl := by
  intro c d same
  simp only [Fields.ofControl, Fields.mk.injEq] at same
  obtain ⟨bit5, bit4, bit3, bit2, bit1, bit0⟩ := same
  refine BitVec.eq_of_getLsbD_eq fun k bound => ?_
  match k, bound with
  | 0, _ => exact bit0
  | 1, _ => exact bit1
  | 2, _ => exact bit2
  | 3, _ => exact bit3
  | 4, _ => exact bit4
  | 5, _ => exact bit5

/-- R63, R67: encoding undoes decoding, since both words have the same fields. -/
@[simp] theorem encode_decode (c : Control) : encode (decode c) = c :=
  Fields.ofControl_injective ((Fields.ofControl_encode (decode c)).trans (fields_decode c))

theorem decode_eq_iff (c : Control) (i : Instr) : decode c = i ↔ c = encode i where
  mp decoded := by rw [← decoded, encode_decode]
  mpr encoded := by rw [encoded, decode_encode]

/-- R63, R212: a number is read as an instruction when it is the value of that instruction's control word. -/
theorem decodeNat_eq_ok_iff (n : Nat) (i : Instr) : decodeNat n = .ok i ↔ n = (encode i).toNat := by
  by_cases bound : n < 64
  · have value : BitVec.ofNat 6 n = encode i ↔ n = (encode i).toNat := by
      rw [← BitVec.toNat_inj, BitVec.toNat_ofNat, Nat.mod_eq_of_lt bound]
    rw [decodeNat, if_pos bound, Except.ok.injEq, decode_eq_iff, value]
  · have differs : n ≠ (encode i).toNat := fun same => bound (same ▸ (encode i).isLt)
    simp [decodeNat, bound, differs]

/-- R212, U5: a number is refused when it does not fit the six wires of the port. -/
theorem decodeNat_eq_error_iff (n : Nat) : decodeNat n = .error .widthViolation ↔ 64 ≤ n := by
  by_cases bound : n < 64
  · simp [decodeNat, bound]
  · simp [decodeNat, bound, Nat.le_of_not_lt bound]

theorem decodeTableWord_eq_some_iff (nbits w : Nat) (i : Instr) :
    decodeTableWord nbits w = some i ↔ decodeNat w = .ok i := by
  unfold decodeTableWord
  cases decodeNat w with
  | ok j => simp
  | error e => simp

theorem decodeTableWord_encode (nbits : Nat) (i : Instr) : decodeTableWord nbits (encode i).toNat = some i :=
  (decodeTableWord_eq_some_iff nbits _ i).mpr ((decodeNat_eq_ok_iff _ i).mpr rfl)

/-- Settles O13: the two round trips, and the number decoder by whether the number fits the port. -/
theorem decodeAndEncodeAgree : Obligations.DecodeAndEncodeAgree := by
  unfold Obligations.DecodeAndEncodeAgree
  exact ⟨decode_encode, encode_decode,
    fun nbits w i => (decodeTableWord_eq_some_iff nbits w i).trans (decodeNat_eq_ok_iff w i), decodeNat_eq_error_iff⟩

end Sys2Proof
end

section
/-!
PROOFS. The sub-blocks bit by bit and as arithmetic (40_components.md): the Zeroer's and the Inverter's bits, the full-adder
chain as the carry of the sum, the exactness of the 16-bit sum, and the flags as ranges of the unsigned value.
-/

namespace Sys2Proof

open Sys2Proof.Machine

/-! ## Bits of the Zeroer and the Inverter -/

/-- R81: the Zeroer gates every bit with the complement of `enable`. -/
theorem zeroer_getLsbD (e : Bool) (v : Word) (k : Nat) : (zeroer e v).getLsbD k = (v.getLsbD k && !e) := by
  cases e with
  | true => rw [zeroer_true, BitVec.getLsbD_zero, Bool.not_true, Bool.and_false]
  | false => rw [zeroer_false, Bool.not_false, Bool.and_true]

/-- R84: the Inverter is a row of XOR gates. -/
theorem inverter_getLsbD (e : Bool) (v : Word) {k : Nat} (bound : k < 16) :
    (inverter e v).getLsbD k = (v.getLsbD k ^^ e) := by
  cases e with
  | true => simp [bound]
  | false => rw [inverter_false, Bool.xor_false]

theorem inverter_true_inverter_true (v : Word) : inverter true (inverter true v) = v := by
  rw [inverter_true, inverter_true, BitVec.not_not]

/-- R98: the zero flag is the NOR of all sixteen bits. -/
theorem comparator_zero_iff_bits (v : Word) : (comparator v).zero = true ↔ ∀ k < 16, v.getLsbD k = false := by
  rw [comparator_zero_iff]
  constructor
  · rintro rfl k -
    exact BitVec.getLsbD_zero
  · intro low
    exact BitVec.eq_of_getLsbD_eq fun k bound => (low k bound).trans BitVec.getLsbD_zero.symm

/-! ## The full-adder chain -/

/-- R89: the chain's carries are those of the sum of the words: the majority rule, from carry-in 0. -/
theorem carry_eq_bitVec_carry (a b : Word) (k : Nat) : carry a b k = BitVec.carry k a b false := by
  induction k with
  | zero => rw [BitVec.carry_zero, carry]
  | succ k ih => rw [BitVec.carry_succ, carry, ih, Bool.atLeastTwo]

theorem adder_getLsbD_eq_rippleBit (a b : Word) {k : Nat} (bound : k < 16) :
    (adder a b).getLsbD k = rippleBit a b k := by
  rw [adder_eq_add, BitVec.getLsbD_add bound, rippleBit, carry_eq_bitVec_carry, Bool.xor_assoc]

/-! ## Exactness of the sum -/

theorem adder_toNat_exact_iff (a b : Word) :
    (adder a b).toNat = a.toNat + b.toNat ↔ a.toNat + b.toNat < 65536 := by
  rw [adder_toNat]
  omega

/-- R90: the signed sum is exact when it lies in the range of a 16-bit two's-complement number. -/
theorem adder_toInt_exact_iff (a b : Word) :
    (adder a b).toInt = a.toInt + b.toInt ↔ -32768 ≤ a.toInt + b.toInt ∧ a.toInt + b.toInt ≤ 32767 := by
  rw [adder_eq_add]
  constructor
  · intro exact_sum
    have lower := BitVec.le_toInt (a + b)
    have upper := BitVec.toInt_lt (x := a + b)
    omega
  · rintro ⟨lower, upper⟩
    rw [BitVec.toInt_add]
    exact Int.bmod_eq_of_le (by omega) (by omega)

/-! ## Flags and ranges -/

theorem comparator_zero_iff_toNat (a : Word) : (comparator a).zero = true ↔ a.toNat = 0 := by
  rw [comparator_zero_iff, ← BitVec.toNat_inj, BitVec.toNat_ofNat, Nat.zero_mod]

theorem comparator_negative_iff_toNat (a : Word) : (comparator a).negative = true ↔ 0x8000 ≤ a.toNat := by
  rw [comparator_negative_eq_msb, BitVec.msb_eq_decide, decide_eq_true_iff]

/-! ## The obligations -/

/-- Settles O8: the chain's carries are the carries of the sum. -/
theorem rippleChainComputesTheSum : Obligations.RippleChainComputesTheSum := by
  unfold Obligations.RippleChainComputesTheSum
  exact fun a b _ bound => adder_getLsbD_eq_rippleBit a b bound

/-- Settles O9: the unsigned sum wraps at 65536 and the signed one is balanced around 0. -/
theorem adderExactness : Obligations.AdderExactness := by
  unfold Obligations.AdderExactness
  exact fun a b => ⟨adder_toNat_exact_iff a b, adder_toInt_exact_iff a b⟩

/-- Settles O10: the two flags are the ranges `= 0` and `≥ 0x8000` of the unsigned value, which do not meet. -/
theorem flagCombinations : Obligations.FlagCombinations := by
  unfold Obligations.FlagCombinations
  intro a
  have zero_value : a = 0x0000#16 ↔ a.toNat = 0 := (comparator_zero_iff a).symm.trans (comparator_zero_iff_toNat a)
  simp only [← Bool.not_eq_true, comparator_zero_iff_toNat, comparator_negative_iff_toNat, zero_value]
  omega

/-- Settles O6: one bit lemma per block. -/
theorem subBlocksBitByBit : Obligations.SubBlocksBitByBit := by
  unfold Obligations.SubBlocksBitByBit
  exact ⟨zeroer_getLsbD, fun e v _ bound => inverter_getLsbD e v bound, inverter_true_inverter_true,
    comparator_zero_iff_bits⟩

/-- Settles O7: the laws of addition of 16-bit words, `~a + 1` being `-a`. -/
theorem adderAlgebraicLaws : Obligations.AdderAlgebraicLaws := by
  unfold Obligations.AdderAlgebraicLaws
  simp only [adder_eq_add]
  refine ⟨BitVec.add_comm, BitVec.add_assoc, BitVec.add_zero, BitVec.add_not_self, fun a => ?_⟩
  rw [← BitVec.neg_eq_not_add, BitVec.add_right_neg]

end Sys2Proof
end

section
/-!
PROOFS. The words of the add and the AND family (42_ctl_add.md, 43_ctl_and.md): what the field pairs select, and how a rule
about one control word is built, its pseudocode from the stages of the ALU and each closed form from the form before it.
-/

namespace Sys2Proof

open Sys2Proof.Machine

/-! ## What the field pairs select (R65, R66) -/

theorem not_zero_eq_max : ~~~0x0000#16 = 0xFFFF#16 := rfl

/-- R65: the four settings of a zero and a negate field, at either operand. -/
theorem inverter_zeroer_table (zero negate : Bool) (v : Word) :
    (zero = false → negate = false → inverter negate (zeroer zero v) = v) ∧
    (zero = false → negate = true → inverter negate (zeroer zero v) = ~~~v) ∧
    (zero = true → negate = false → inverter negate (zeroer zero v) = 0x0000#16) ∧
    (zero = true → negate = true → inverter negate (zeroer zero v) = 0xFFFF#16) := by
  refine ⟨?_, ?_, ?_, ?_⟩ <;> rintro rfl rfl
  · exact inverter_false v
  · exact inverter_true v
  · exact inverter_false 0x0000#16
  · exact not_zero_eq_max

theorem selectFunction_of_useAdd {f : Fields} (useAdd : f.useAdd = true) (x2 y2 : Word) :
    selectFunction f x2 y2 = x2 + y2 := by
  rw [selectFunction_eq, if_pos useAdd]

theorem selectFunction_of_not_useAdd {f : Fields} (useAnd : f.useAdd = false) (x2 y2 : Word) :
    selectFunction f x2 y2 = x2 &&& y2 := by
  rw [selectFunction_eq, useAnd, if_neg Bool.false_ne_true]

/-- R116, R123: an add-family word adds its conditioned operands. -/
theorem aluResult_of_useAdd {f : Fields} (useAdd : f.useAdd = true) (x y : Word) :
    aluResult f x y = inverter f.negateOutput (conditionX f x + conditionY f y) := by
  rw [aluResult_eq_inverter_selectFunction, selectFunction_of_useAdd useAdd]

/-- R116, R123: an AND-family word takes the bitwise AND of its conditioned operands. -/
theorem aluResult_of_not_useAdd {f : Fields} (useAnd : f.useAdd = false) (x y : Word) :
    aluResult f x y = inverter f.negateOutput (conditionX f x &&& conditionY f y) := by
  rw [aluResult_eq_inverter_selectFunction, selectFunction_of_not_useAdd useAnd]

/-! ## Rules about one control word -/

theorem computes_of_stages {i : Instr} {p : Word → Word → Word} (stages : ∀ x y, aluResult i.fields x y = p x y) :
    Computes i p :=
  (computes_iff i p).mpr fun s => by rw [stages]

theorem Computes.congr {i : Instr} {p q : Word → Word → Word} (computes : Computes i p) (same : ∀ x y, q x y = p x y) :
    Computes i q := fun s => by
  rw [computes s, same]

/-- A rule that gives the pseudocode only. -/
theorem WordRule.of_computes {i : Instr} {control : Control} {p : Word → Word → Word} (encoding : encode i = control)
    (computes : Computes i p) : WordRule i control [p] :=
  ⟨encoding, (decode_eq_iff control i).mpr encoding.symm, List.forall_mem_singleton.mpr computes⟩

/-- The rule of an add-family word: its pseudocode is the sum of the conditioned operands, inverted or not. For an
instruction known by name each premise is true by computation. -/
theorem WordRule.add {i : Instr} {control : Control} {p : Word → Word → Word}
    (encoding : encode i = control := by rfl) (useAdd : i.fields.useAdd = true := by rfl)
    (pseudocode : ∀ x y, inverter i.fields.negateOutput (conditionX i.fields x + conditionY i.fields y) = p x y := by
      exact fun _ _ => rfl) :
    WordRule i control [p] :=
  .of_computes encoding <| computes_of_stages fun x y => (aluResult_of_useAdd useAdd x y).trans (pseudocode x y)

/-- The rule of an AND-family word, in the same way. -/
theorem WordRule.and {i : Instr} {control : Control} {p : Word → Word → Word}
    (encoding : encode i = control := by rfl) (useAnd : i.fields.useAdd = false := by rfl)
    (pseudocode : ∀ x y, inverter i.fields.negateOutput (conditionX i.fields x &&& conditionY i.fields y) = p x y := by
      exact fun _ _ => rfl) :
    WordRule i control [p] :=
  .of_computes encoding <| computes_of_stages fun x y => (aluResult_of_not_useAdd useAnd x y).trans (pseudocode x y)

/-- One more spelling `q` of the pseudocode `p`, put in behind it. -/
theorem WordRule.spelled {i : Instr} {control : Control} {p q : Word → Word → Word} {forms : List (Word → Word → Word)}
    (rule : WordRule i control (p :: forms)) (same : ∀ x y, q x y = p x y) : WordRule i control (p :: q :: forms) := by
  obtain ⟨encoding, decoding, all_computed⟩ := rule
  obtain ⟨p_computed, forms_computed⟩ := List.forall_mem_cons.mp all_computed
  exact ⟨encoding, decoding,
    List.forall_mem_cons.mpr ⟨p_computed, List.forall_mem_cons.mpr ⟨p_computed.congr same, forms_computed⟩⟩⟩

/-! ## The spellings of the closed forms, `~v` being `-v - 1` -/

theorem neg_sub_one (v : Word) : -v - 1#16 = ~~~v := (BitVec.not_eq_neg_add v).symm

theorem neg_sub_sub_one (x y : Word) : -x - y - 1#16 = ~~~(x + y) := by grind [BitVec.not_eq_neg_add]

theorem sub_sub_one (x y : Word) : x - y - 1#16 = x + ~~~y := by grind [BitVec.not_eq_neg_add]

theorem not_sub (x y : Word) : ~~~(y - x) = x + ~~~y := by grind [BitVec.not_eq_neg_add]

theorem sub_eq_not_add_not (x y : Word) : y - x = ~~~(x + ~~~y) := by grind [BitVec.not_eq_neg_add]

theorem neg_sub_sub_two (x y : Word) : -x - y - 2#16 = ~~~x + ~~~y := by grind [BitVec.not_eq_neg_add]

theorem add_add_one (x y : Word) : x + y + 1#16 = ~~~(~~~x + ~~~y) := by grind [BitVec.not_eq_neg_add]

/-! The same with one operand 0. -/

theorem sub_one_eq (v : Word) : v - 1#16 = v + ~~~0x0000#16 := by
  rw [← sub_sub_one, BitVec.sub_zero]

theorem neg_eq (v : Word) : -v = ~~~(v + ~~~0x0000#16) := by
  rw [← sub_eq_not_add_not, BitVec.zero_sub]

theorem neg_sub_two_eq (v : Word) : -v - 2#16 = ~~~v + ~~~0x0000#16 := by
  rw [← neg_sub_sub_two, BitVec.sub_zero]

theorem add_one_eq (v : Word) : v + 1#16 = ~~~(~~~v + ~~~0x0000#16) := by
  rw [← add_add_one, BitVec.add_zero]

theorem and_not_zero (v : Word) : v &&& ~~~0x0000#16 = v := by
  rw [BitVec.not_zero, BitVec.and_allOnes]

theorem not_zero_and (v : Word) : ~~~0x0000#16 &&& v = v := by
  rw [BitVec.and_comm, and_not_zero]

/-! ## The obligations -/

/-- Settles O20: both operands pass through the same pair of a Zeroer and an Inverter. -/
theorem operandAndFunctionTables : Obligations.OperandAndFunctionTables := by
  unfold Obligations.OperandAndFunctionTables
  intro f x y
  obtain ⟨x_passed, x_inverted, x_zeroed, x_ones⟩ := inverter_zeroer_table f.zeroX f.negateX x
  obtain ⟨y_passed, y_inverted, y_zeroed, y_ones⟩ := inverter_zeroer_table f.zeroY f.negateY y
  refine ⟨x_passed, x_inverted, x_zeroed, x_ones, y_passed, y_inverted, y_zeroed, y_ones,
    fun useAdd => selectFunction_of_useAdd useAdd x y, fun useAnd => selectFunction_of_not_useAdd useAnd x y,
    fun negateOutput => ?_, fun negateOutput => ?_⟩
  · rw [aluResult_eq_inverter_selectFunction, negateOutput, inverter_true]
  · rw [aluResult_eq_inverter_selectFunction, negateOutput, inverter_false]

/-- Settles O21: the stages are the pseudocode; with only x complemented, the sum is read with its operands swapped. -/
theorem addWordsOfBothOperands : Obligations.AddWordsOfBothOperands := by
  unfold Obligations.AddWordsOfBothOperands
  exact ⟨.add,
    .spelled .add neg_sub_sub_one,
    .spelled (.spelled .add not_sub) sub_sub_one,
    .spelled .add sub_eq_not_add_not,
    .spelled (.spelled .add fun x y => by rw [not_sub, BitVec.add_comm])
      fun x y => by rw [sub_sub_one, BitVec.add_comm],
    .spelled .add fun x y => by rw [sub_eq_not_add_not, BitVec.add_comm],
    .spelled .add neg_sub_sub_two,
    .spelled .add add_add_one⟩

/-- Settles O22: the forms of two operands with y or its complement 0. -/
theorem addWordsOfX : Obligations.AddWordsOfX := by
  unfold Obligations.AddWordsOfX
  exact ⟨.spelled .add fun x _ => by rw [BitVec.add_zero],
    .spelled (.spelled .add fun x _ => by rw [BitVec.add_zero])
      fun x _ => by rw [neg_sub_one, BitVec.add_zero],
    .spelled .add fun x _ => sub_one_eq x,
    .spelled .add fun x _ => neg_eq x,
    .spelled (.spelled .add fun x _ => by rw [BitVec.add_zero])
      fun x _ => by rw [neg_sub_one, BitVec.add_zero],
    .spelled .add fun x _ => by rw [BitVec.add_zero, BitVec.not_not],
    .spelled .add fun x _ => neg_sub_two_eq x,
    .spelled .add fun x _ => add_one_eq x⟩

/-- Settles O23: the forms of x alone, the sum read with its operands swapped. -/
theorem addWordsOfY : Obligations.AddWordsOfY := by
  unfold Obligations.AddWordsOfY
  exact ⟨.spelled .add fun _ y => by rw [BitVec.zero_add],
    .spelled (.spelled .add fun _ y => by rw [BitVec.zero_add])
      fun _ y => by rw [neg_sub_one, BitVec.zero_add],
    .spelled (.spelled .add fun _ y => by rw [BitVec.zero_add])
      fun _ y => by rw [neg_sub_one, BitVec.zero_add],
    .spelled .add fun _ y => by rw [BitVec.zero_add, BitVec.not_not],
    .spelled .add fun _ y => by rw [sub_one_eq, BitVec.add_comm],
    .spelled .add fun _ y => by rw [neg_eq, BitVec.add_comm],
    .spelled .add fun _ y => by rw [neg_sub_two_eq, BitVec.add_comm],
    .spelled .add fun _ y => by rw [add_one_eq, BitVec.add_comm]⟩

/-- Settles O24: with both operands zeroed the pseudocode is a closed term, and its spellings are its value. -/
theorem addWordsOfNeither : Obligations.AddWordsOfNeither := by
  unfold Obligations.AddWordsOfNeither
  exact ⟨.spelled .add fun _ _ => rfl,
    .spelled (.spelled .add fun _ _ => rfl) fun _ _ => rfl,
    .spelled (.spelled .add fun _ _ => rfl) fun _ _ => rfl,
    .spelled .add fun _ _ => rfl,
    .spelled (.spelled .add fun _ _ => rfl) fun _ _ => rfl,
    .spelled .add fun _ _ => rfl,
    .spelled (.spelled .add fun _ _ => rfl) fun _ _ => rfl,
    .spelled .add fun _ _ => rfl⟩

/-- Settles O25: the second spellings are De Morgan's laws. -/
theorem andWordsOfBothOperands : Obligations.AndWordsOfBothOperands := by
  unfold Obligations.AndWordsOfBothOperands
  exact ⟨.and,
    .spelled .and fun x y => by rw [BitVec.not_and],
    .and,
    .spelled .and fun x y => by rw [BitVec.not_and, BitVec.not_not],
    .and,
    .spelled .and fun x y => by rw [BitVec.not_and, BitVec.not_not],
    .spelled .and fun x y => by rw [BitVec.not_or],
    .spelled .and fun x y => by rw [BitVec.not_and, BitVec.not_not, BitVec.not_not]⟩

/-- Settles O26: all ones are neutral for the AND. -/
theorem andWordsOfOneOperand : Obligations.AndWordsOfOneOperand := by
  unfold Obligations.AndWordsOfOneOperand
  exact ⟨.spelled .and fun x _ => by rw [and_not_zero],
    .spelled .and fun x _ => by rw [and_not_zero],
    .spelled .and fun x _ => by rw [and_not_zero],
    .spelled .and fun x _ => by rw [and_not_zero, BitVec.not_not],
    .spelled .and fun _ y => by rw [not_zero_and],
    .spelled .and fun _ y => by rw [not_zero_and],
    .spelled .and fun _ y => by rw [not_zero_and],
    .spelled .and fun _ y => by rw [not_zero_and, BitVec.not_not]⟩

/-- Settles O27: 0x0000 absorbs the other operand of the AND. -/
theorem andWordsOfNeitherOneZeroed : Obligations.AndWordsOfNeitherOneZeroed := by
  unfold Obligations.AndWordsOfNeitherOneZeroed
  exact ⟨.spelled .and fun x _ => by rw [BitVec.and_zero],
    .spelled .and fun x _ => by rw [BitVec.and_zero, not_zero_eq_max],
    .spelled .and fun x _ => by rw [BitVec.and_zero],
    .spelled .and fun x _ => by rw [BitVec.and_zero, not_zero_eq_max],
    .spelled .and fun _ y => by rw [BitVec.zero_and],
    .spelled .and fun _ y => by rw [BitVec.zero_and, not_zero_eq_max],
    .spelled .and fun _ y => by rw [BitVec.zero_and],
    .spelled .and fun _ y => by rw [BitVec.zero_and, not_zero_eq_max]⟩

/-- Settles O28: with both operands zeroed the pseudocode is a closed term, and its spelling is its value. -/
theorem andWordsOfNeitherBothZeroed : Obligations.AndWordsOfNeitherBothZeroed := by
  unfold Obligations.AndWordsOfNeitherBothZeroed
  exact ⟨.spelled .and fun _ _ => rfl,
    .spelled .and fun _ _ => rfl,
    .spelled .and fun _ _ => rfl,
    .spelled .and fun _ _ => rfl,
    .spelled .and fun _ _ => rfl,
    .spelled .and fun _ _ => rfl,
    .spelled .and fun _ _ => rfl,
    .spelled .and fun _ _ => rfl⟩

/-- Settles O32: both words add all ones to a complement and invert, which is the addition of 1. -/
theorem aluIncrementAgreesWithIncrementer : Obligations.AluIncrementAgreesWithIncrementer := by
  unfold Obligations.AluIncrementAgreesWithIncrementer
  refine ⟨computes_decode fun x y => ?_, computes_decode fun x y => ?_⟩
  · calc
      _ = ~~~(~~~x + ~~~0x0000#16) := aluResult_of_useAdd rfl x y
      _ = incrementer x := by rw [← add_one_eq, incrementer_eq_add_one]
  · calc
      _ = ~~~(~~~0x0000#16 + ~~~y) := aluResult_of_useAdd rfl x y
      _ = incrementer y := by rw [BitVec.add_comm, ← add_one_eq, incrementer_eq_add_one]

end Sys2Proof
end

section
/-!
PROOFS. The two families as wholes (41_alu.md R124, R125): an add-family word is a linear form of its operands read as
integers, and an AND-family word is one function of two bits, the same in every lane.
-/

namespace Sys2Proof

open Sys2Proof.Machine

/-! ## The add family: words as integers mod 65536 -/

theorem ofInt_toNat_self (v : Word) : BitVec.ofInt 16 v.toNat = v := by
  rw [BitVec.ofInt_natCast, BitVec.ofNat_toNat, BitVec.setWidth_eq]

/-- R83: complementing is `-m - 1` on the integer a word stands for. -/
theorem inverter_ofInt (e : Bool) (m : Int) :
    inverter e (BitVec.ofInt 16 m) = BitVec.ofInt 16 (if e then -m - 1 else m) := by
  cases e with
  | true =>
    have one : BitVec.ofInt 16 1 = 1#16 := rfl
    rw [inverter_true, BitVec.not_eq_neg_add, if_pos rfl, Int.sub_eq_add_neg, BitVec.ofInt_add, BitVec.ofInt_neg,
      BitVec.ofInt_neg, one, BitVec.sub_eq_add_neg]
  | false => rfl

/-- R124: a conditioned operand is `p * v + q`. -/
theorem inverter_zeroer_eq_ofInt (zero negate : Bool) (v : Word) :
    inverter negate (zeroer zero v) =
      BitVec.ofInt 16 ((linearCoefficients zero negate).1 * v.toNat + (linearCoefficients zero negate).2) := by
  have zeroed : zeroer zero v = BitVec.ofInt 16 (if zero then 0 else v.toNat) := by
    cases zero with
    | true => rfl
    | false => exact (ofInt_toNat_self v).symm
  rw [zeroed, inverter_ofInt]
  congr 1
  cases zero <;> cases negate <;> simp [linearCoefficients, Int.sub_eq_add_neg]

/-- R124: the sum of two linear forms, complemented or not, is one linear form. -/
theorem aluResult_eq_linearForm {c : Control} (useAdd : c.getLsbD 1 = true) (x y : Word) :
    aluResult (Fields.ofControl c) x y = linearForm c x y := by
  rw [aluResult_of_useAdd useAdd, conditionX_eq_inverter_zeroer, conditionY_eq_inverter_zeroer,
    inverter_zeroer_eq_ofInt, inverter_zeroer_eq_ofInt, ← BitVec.ofInt_add, inverter_ofInt, add_add_add_comm]
  rfl

theorem linearCoefficients_range (zero negate : Bool) :
    ((linearCoefficients zero negate).1 = -1 ∨ (linearCoefficients zero negate).1 = 0 ∨
      (linearCoefficients zero negate).1 = 1) ∧
    ((linearCoefficients zero negate).2 = -1 ∨ (linearCoefficients zero negate).2 = 0) := by
  revert zero negate
  decide

/-- R124: complementing the output negates both coefficients, so every form stays in the listed ranges. -/
theorem linearForm_eq_ofInt (c : Control) :
    ∃ cx cy k : Int, (cx = -1 ∨ cx = 0 ∨ cx = 1) ∧ (cy = -1 ∨ cy = 0 ∨ cy = 1) ∧ (k = -2 ∨ k = -1 ∨ k = 0 ∨ k = 1) ∧
      ∀ x y, BitVec.ofInt 16 (cx * x.toNat + cy * y.toNat + k) = linearForm c x y := by
  unfold linearForm
  obtain ⟨p_coefficient, p_constant⟩ := linearCoefficients_range (c.getLsbD 5) (c.getLsbD 4)
  obtain ⟨q_coefficient, q_constant⟩ := linearCoefficients_range (c.getLsbD 3) (c.getLsbD 2)
  generalize linearCoefficients (c.getLsbD 5) (c.getLsbD 4) = p at *
  generalize linearCoefficients (c.getLsbD 3) (c.getLsbD 2) = q at *
  cases c.getLsbD 0 with
  | false => exact ⟨p.1, q.1, p.2 + q.2, p_coefficient, q_coefficient, by omega, fun _ _ => rfl⟩
  | true =>
    refine ⟨-p.1, -q.1, -(p.2 + q.2) - 1, by omega, by omega, by omega, fun x y => ?_⟩
    congr 1
    simp only [if_true]
    ring

/-! ## The AND family: one function per lane -/

/-- R125: one lane of a conditioned operand. -/
def conditionBit (zero negate b : Bool) : Bool := (b && !zero) ^^ negate

/-- R125: one lane of an AND-family word with these fields. -/
def andLane (f : Fields) (p q : Bool) : Bool :=
  (conditionBit f.zeroX f.negateX p && conditionBit f.zeroY f.negateY q) ^^ f.negateOutput

theorem inverter_zeroer_getLsbD (zero negate : Bool) (v : Word) {k : Nat} (bound : k < 16) :
    (inverter negate (zeroer zero v)).getLsbD k = conditionBit zero negate (v.getLsbD k) := by
  rw [inverter_getLsbD negate _ bound, zeroer_getLsbD, conditionBit]

/-- R125: no lane reads another lane. -/
theorem aluResult_getLsbD {f : Fields} (useAnd : f.useAdd = false) (x y : Word) {k : Nat} (bound : k < 16) :
    (aluResult f x y).getLsbD k = andLane f (x.getLsbD k) (y.getLsbD k) := by
  rw [aluResult_of_not_useAdd useAnd, inverter_getLsbD _ _ bound, BitVec.getLsbD_and, conditionX_eq_inverter_zeroer,
    conditionY_eq_inverter_zeroer, inverter_zeroer_getLsbD _ _ _ bound, inverter_zeroer_getLsbD _ _ _ bound, andLane]

/-- R125: an AND of conditioned bits is constant, or a function of one bit, or three of its four values are equal; XOR and
its complement are none of these. -/
theorem andLane_not_xor (f : Fields) :
    (∃ p q, andLane f p q ≠ (p ^^ q)) ∧ (∃ p q, andLane f p q ≠ !(p ^^ q)) := by
  obtain ⟨zeroX, negateX, zeroY, negateY, useAdd, negateOutput⟩ := f
  revert zeroX negateX zeroY negateY useAdd negateOutput
  decide

/-! ## The obligations -/

/-- Settles O29: the stages are the linear form, and the form has its coefficients in range. -/
theorem addFamilyIsLinear : Obligations.AddFamilyIsLinear := by
  unfold Obligations.AddFamilyIsLinear
  intro c useAdd
  have linear : Computes (decode c) (linearForm c) := computes_decode (aluResult_eq_linearForm useAdd)
  obtain ⟨cx, cy, k, cx_range, cy_range, k_range, same⟩ := linearForm_eq_ofInt c
  exact ⟨linear, cx, cy, k, cx_range, cy_range, k_range, linear.congr same⟩

/-- Settles O30: the lane function of the word's fields. -/
theorem andFamilyIsBitwise : Obligations.AndFamilyIsBitwise := by
  unfold Obligations.AndFamilyIsBitwise
  intro c useAnd
  obtain ⟨not_xor, not_xnor⟩ := andLane_not_xor (Fields.ofControl c)
  exact ⟨andLane (Fields.ofControl c), not_xor, not_xnor, fun s =>
    ⟨_, exec_decode c s, fun _ bound => aluResult_getLsbD useAnd s.x s.y bound⟩⟩

end Sys2Proof
end

section
/-!
PROOFS. Which control words compute the same function (30_encoding.md R70). One pair of operands tells every two functions
of the 64 words apart, so the table's classes are the words that agree on it; that a class computes one function follows
from the rules of its words.
-/

namespace Sys2Proof

open Sys2Proof.Machine

/-! ## The classes of the table -/

/-- The class of the table an instruction stands in; one that stands in none is alone. -/
def classOf (i : Instr) : List Instr := (aliasClasses.find? (i ∈ ·)).getD [i]

theorem classOf_cases (i : Instr) : (classOf i ∈ aliasClasses ∧ i ∈ classOf i) ∨ classOf i = [i] := by
  unfold classOf
  cases found : aliasClasses.find? (i ∈ ·) with
  | none => exact .inr rfl
  | some cls => exact .inl ⟨List.mem_of_find?_eq_some found, by simpa using List.find?_some found⟩

theorem mem_classOf (i : Instr) : i ∈ classOf i := by
  obtain ⟨-, member⟩ | alone := classOf_cases i
  · exact member
  · rw [alone]
    exact List.mem_singleton_self i

/-- No instruction stands in two classes of the table. -/
theorem classOf_eq_of_mem : ∀ cls ∈ aliasClasses, ∀ i ∈ cls, classOf i = cls := by decide

theorem classOf_eq_of_mem_classOf {i j : Instr} (member : j ∈ classOf i) : classOf j = classOf i := by
  obtain ⟨in_table, -⟩ | alone := classOf_cases i
  · exact classOf_eq_of_mem _ in_table j member
  · rw [alone, List.mem_singleton] at member
    rw [member]

theorem classOf_eq_iff (i j : Instr) : classOf i = classOf j ↔ i = j ∨ ∃ cls ∈ aliasClasses, i ∈ cls ∧ j ∈ cls := by
  constructor
  · intro same
    have member : j ∈ classOf i := same ▸ mem_classOf j
    obtain ⟨in_table, i_member⟩ | alone := classOf_cases i
    · exact .inr ⟨classOf i, in_table, i_member, member⟩
    · rw [alone, List.mem_singleton] at member
      exact .inl member.symm
  · rintro (rfl | ⟨cls, in_table, i_member, j_member⟩)
    · rfl
    · rw [classOf_eq_of_mem cls in_table i i_member, classOf_eq_of_mem cls in_table j j_member]

/-! ## One pair of operands tells the classes apart -/

/-- The result of an instruction on the operands of 95_test_vectors.md 2.6. -/
def probe (i : Instr) : Word := aluResult i.fields 0x0F0F#16 0x00FF#16

/-- All instructions, in the order of their control words. -/
def instructions : List Instr := (List.range 64).map fun n => decode (BitVec.ofNat 6 n)

theorem mem_instructions (i : Instr) : i ∈ instructions := by
  refine List.mem_map.mpr ⟨(encode i).toNat, List.mem_range.mpr (encode i).isLt, ?_⟩
  rw [BitVec.ofNat_toNat, BitVec.setWidth_eq, decode_encode]

/-- The 64 results on that pair, sorted into classes: they are the classes of the table. -/
theorem classOf_eq_filter_probe :
    ∀ i ∈ instructions, classOf i = instructions.filter fun j => probe j = probe i := by decide

theorem classOf_eq_of_probe_eq {i j : Instr} (same : probe i = probe j) : classOf i = classOf j := by
  rw [classOf_eq_filter_probe i (mem_instructions i), classOf_eq_filter_probe j (mem_instructions j), same]

/-! ## A class computes one function -/

theorem WordRule.second {i : Instr} {control : Control} {p q : Word → Word → Word} {forms : List (Word → Word → Word)}
    (rule : WordRule i control (p :: q :: forms)) : Computes i q := by
  obtain ⟨-, -, all_computed⟩ := rule
  exact all_computed q (.tail _ (.head _))

theorem WordRule.third {i : Instr} {control : Control} {p q r : Word → Word → Word} {forms : List (Word → Word → Word)}
    (rule : WordRule i control (p :: q :: r :: forms)) : Computes i r := by
  obtain ⟨-, -, all_computed⟩ := rule
  exact all_computed r (.tail _ (.tail _ (.head _)))

/-- R70: what the words of a class compute: 0x0000, 0xFFFF, x, its complement, y, its complement. -/
def classFunctions : List (Word → Word → Word) :=
  [fun _ _ => 0x0000#16, fun _ _ => 0xFFFF#16, fun x _ => x, fun x _ => ~~~x, fun _ y => y, fun _ y => ~~~y]

theorem aliasClasses_compute : List.Forall₂ (fun cls f => ∀ i ∈ cls, Computes i f) aliasClasses classFunctions := by
  obtain ⟨addZy, addZyNo, -, -, addNxZy, addNxZyNo, -, -⟩ := addWordsOfX
  obtain ⟨addZx, addZxNo, addZxNy, addZxNyNo, -, -, -, -⟩ := addWordsOfY
  obtain ⟨addZxZy, addZxZyNo, addZxZyNy, addZxZyNyNo, addZxNxZy, addZxNxZyNo, -, -⟩ := addWordsOfNeither
  obtain ⟨andZyNy, andZyNyNo, andNxZyNy, andNxZyNyNo, andZxNx, andZxNxNo, andZxNxNy, andZxNxNyNo⟩ :=
    andWordsOfOneOperand
  obtain ⟨andZy, andZyNo, andNxZy, andNxZyNo, andZx, andZxNo, andZxNy, andZxNyNo⟩ := andWordsOfNeitherOneZeroed
  obtain ⟨andZxZy, andZxZyNo, andZxZyNy, andZxZyNyNo, andZxNxZy, andZxNxZyNo, andZxNxZyNy, andZxNxZyNyNo⟩ :=
    andWordsOfNeitherBothZeroed
  simp only [aliasClasses, classFunctions, List.forall₂_cons, List.forall₂_nil_left_iff, List.forall_mem_cons,
    List.not_mem_nil, IsEmpty.forall_iff, implies_true, and_true]
  exact ⟨⟨andZy.second, andNxZy.second, andZx.second, andZxNy.second, andZxZy.second, addZxZy.second, andZxZyNy.second,
      addZxZyNyNo.second, andZxNxZy.second, addZxNxZyNo.second, andZxNxZyNyNo.second⟩,
    ⟨andZyNo.second, andNxZyNo.second, andZxNo.second, andZxNyNo.second, andZxZyNo.second, addZxZyNo.second,
      andZxZyNyNo.second, addZxZyNy.second, andZxNxZyNo.second, addZxNxZy.second, andZxNxZyNy.second⟩,
    ⟨addZy.second, andZyNy.second, addNxZyNo.second, andNxZyNyNo.second⟩,
    ⟨addZyNo.third, andZyNyNo.second, addNxZy.third, andNxZyNy.second⟩,
    ⟨addZx.second, addZxNyNo.second, andZxNx.second, andZxNxNyNo.second⟩,
    ⟨addZxNo.third, addZxNy.third, andZxNxNo.second, andZxNxNy.second⟩⟩

theorem Computes.exec_eq {i j : Instr} {f : Word → Word → Word} (hi : Computes i f) (hj : Computes j f) (s : State) :
    exec i s = exec j s :=
  (hi s).trans (hj s).symm

/-! ## The same effect is the same class -/

theorem probe_eq_of_exec_eq {i j : Instr} (same : ∀ s, exec i s = exec j s) : probe i = probe j := by
  have shown := same { State.reset with x := 0x0F0F#16, y := 0x00FF#16 }
  rw [exec_eq_next, exec_eq_next, Host.Outcome.next.injEq] at shown
  exact congrArg State.result shown

theorem exec_eq_of_classOf_eq {i j : Instr} (same : classOf i = classOf j) (s : State) : exec i s = exec j s := by
  obtain rfl | ⟨cls, in_table, i_member, j_member⟩ := (classOf_eq_iff i j).mp same
  · rfl
  · obtain ⟨k, bound, rfl⟩ := List.getElem_of_mem in_table
    have computed := aliasClasses_compute.get bound (aliasClasses_compute.length_eq ▸ bound)
    exact (computed i i_member).exec_eq (computed j j_member) s

/-- R70: two instructions have the same effect in every state exactly when they stand in one class. -/
theorem exec_eq_iff_classOf_eq (i j : Instr) : (∀ s, exec i s = exec j s) ↔ classOf i = classOf j :=
  ⟨fun same => classOf_eq_of_probe_eq (probe_eq_of_exec_eq same), exec_eq_of_classOf_eq⟩

/-! ## One instruction of each class -/

/-- The first instruction of every class. -/
def representatives : List Instr := instructions.filter fun i => (classOf i).head? = some i

theorem mem_representatives (i : Instr) : i ∈ representatives ↔ (classOf i).head? = some i := by
  rw [representatives, List.mem_filter, decide_eq_true_iff, and_iff_right (mem_instructions i)]

theorem exists_representative (i : Instr) : ∃ r ∈ representatives, classOf r = classOf i := by
  obtain ⟨r, first⟩ := Option.isSome_iff_exists.mp (List.isSome_head?.mpr (List.ne_nil_of_mem (mem_classOf i)))
  have same := classOf_eq_of_mem_classOf (List.mem_of_head? first)
  exact ⟨r, (mem_representatives r).mpr (same ▸ first), same⟩

theorem representative_unique {r r' : Instr} (hr : r ∈ representatives) (hr' : r' ∈ representatives)
    (same : classOf r = classOf r') : r = r' := by
  rw [mem_representatives] at hr hr'
  exact Option.some.inj (hr.symm.trans (same ▸ hr'))

theorem representatives_nodup : representatives.Nodup := by decide

theorem representatives_length : representatives.length = 32 := by decide

/-! ## The obligation -/

/-- Settles O31: the same effect is the same class, and the first instruction of each class stands for it. -/
theorem aliasClassesAreExact : Obligations.AliasClassesAreExact := by
  unfold Obligations.AliasClassesAreExact
  simp only [exec_eq_iff_classOf_eq]
  refine ⟨classOf_eq_iff, representatives, representatives_nodup, representatives_length, fun i => ?_⟩
  obtain ⟨r, member, same⟩ := exists_representative i
  exact ⟨r, ⟨member, same⟩, fun r' ⟨member', same'⟩ => representative_unique member' member (same'.trans same.symm)⟩

end Sys2Proof
end

section
/-!
PROOFS. Time (70_reset_and_hazards.md R241, R244, R246): a step answers one next state, which keeps the ALU's inputs, counts
every window down and ends with the outputs settled or free; a run of such steps settles.
-/

namespace Sys2Proof

open Sys2Proof.Machine

/-! ## The settled outputs -/

/-- R116: showing the stages' result for the word on the control port is showing the ALU function. -/
theorem outputsAreAlu_showing (s : State) :
    OutputsAreAlu (showing (aluResult (Fields.ofControl s.control) s.x s.y) s) :=
  (alu_eq_aluResult s.x s.y s.control).symm

/-- R115: whatever the ALU function shows, its flags are those of its result. -/
theorem OutputsAreAlu.flags {t : State} (settled : OutputsAreAlu t) :
    t.zero = decide (t.result = 0x0000#16) ∧ t.negative = t.result.getLsbD 15 := by
  rw [OutputsAreAlu, alu_eq_aluResult] at settled
  simp only [Prod.mk.injEq] at settled
  obtain ⟨result, zero, negative⟩ := settled
  rw [result, zero, negative]
  exact ⟨rfl, rfl⟩

theorem SameInputs.refl (s : State) : SameInputs s s := ⟨rfl, rfl, rfl⟩

theorem SameInputs.symm {s t : State} (same : SameInputs s t) : SameInputs t s := by
  obtain ⟨x, y, control⟩ := same
  exact ⟨x.symm, y.symm, control.symm⟩

theorem SameInputs.trans {s t u : State} (st : SameInputs s t) (tu : SameInputs t u) : SameInputs s u := by
  obtain ⟨x, y, control⟩ := st
  obtain ⟨x', y', control'⟩ := tu
  exact ⟨x.trans x', y.trans y', control.trans control'⟩

theorem SameInputs.alu_eq {s t : State} (same : SameInputs s t) : alu s.x s.y s.control = alu t.x t.y t.control := by
  obtain ⟨x, y, control⟩ := same
  rw [x, y, control]

/-- R119: with the same inputs the settled outputs are the same. -/
theorem OutputsAreAlu.outputs_eq {s t : State} (hs : OutputsAreAlu s) (ht : OutputsAreAlu t) (same : SameInputs s t) :
    s.result = t.result ∧ s.zero = t.zero ∧ s.negative = t.negative := by
  simpa only [Prod.mk.injEq] using hs.trans (same.alu_eq.trans ht.symm)

/-! ## One step -/

/-- The state at the end of one unit of time: what `step` answers with (`step_eq_next`). -/
def afterStep (s : State) : State :=
  if s.settling ≤ 1 then showing (aluResult (Fields.ofControl s.control) s.x s.y) s.passTime else s.glitch

theorem afterStep_settled {s : State} (closes : s.settling ≤ 1) :
    afterStep s = showing (aluResult (Fields.ofControl s.control) s.x s.y) s.passTime := if_pos closes

theorem afterStep_unsettled {s : State} (stays_open : 1 < s.settling) : afterStep s = s.glitch :=
  if_neg (Nat.not_le_of_lt stays_open)

/-- R118, R210: every step answers a next state. -/
theorem step_eq_next (s : State) : step s = .next (afterStep s) := by
  by_cases closes : s.settling ≤ 1
  · rw [step_settled (Nat.sub_eq_zero_of_le closes), afterStep_settled closes, State.fetch, fields_decode]
  · rw [step_unsettled (Nat.sub_ne_zero_of_lt (Nat.lt_of_not_le closes)),
      afterStep_unsettled (Nat.lt_of_not_le closes)]

theorem sameInputs_afterStep (s : State) : SameInputs s (afterStep s) := by
  unfold afterStep
  split <;> exact ⟨rfl, rfl, rfl⟩

@[simp] theorem afterStep_settling (s : State) : (afterStep s).settling = s.settling - 1 := by
  unfold afterStep
  split <;> rfl

@[simp] theorem afterStep_ticks (s : State) : (afterStep s).ticks = s.ticks + 1 := by
  unfold afterStep
  split <;> rfl

/-- R221: the sub-blocks pass the unit of time by themselves, whether or not the ALU settles. -/
theorem sameBlocks_afterStep (s : State) : SameBlocks s.passTime (afterStep s) := by
  unfold afterStep
  split <;> exact ⟨rfl, rfl, rfl, rfl, rfl⟩

/-- R241: a step that closes the window, or finds it closed, ends with the outputs settled. -/
theorem outputsAreAlu_afterStep {s : State} (closes : s.settling ≤ 1) : OutputsAreAlu (afterStep s) := by
  rw [afterStep_settled closes]
  exact outputsAreAlu_showing s.passTime

/-- R244: inside the window the outputs are free values. -/
theorem outputsAreDraws_afterStep {s : State} (stays_open : 1 < s.settling) :
    OutputsAreDraws (afterStep s) s.ticks := by
  rw [afterStep_unsettled stays_open]
  exact ⟨rfl, rfl, rfl⟩

/-! ## Runs -/

theorem run_succ_of_step {M : Host.Core} {s t : M.State} (answers : M.step s = .next t) (k : Nat) :
    M.run (k + 1) s = M.run k t := by
  rw [Host.Core.run, answers]

/-- A run never stops: `k` steps are `k` units of time. -/
theorem run_eq_next (k : Nat) (s : State) : core.run k s = .next (afterStep^[k] s) := by
  induction k generalizing s with
  | zero => rfl
  | succ k ih =>
    calc
      core.run (k + 1) s = core.run k (afterStep s) := run_succ_of_step (M := core) (step_eq_next s) k
      _ = .next (afterStep^[k] (afterStep s)) := ih (afterStep s)

theorem sameInputs_iterate_afterStep (k : Nat) (s : State) : SameInputs s (afterStep^[k] s) := by
  induction k with
  | zero => exact .refl s
  | succ k ih =>
    rw [Function.iterate_succ_apply']
    exact ih.trans (sameInputs_afterStep _)

theorem iterate_afterStep_settling (k : Nat) (s : State) : (afterStep^[k] s).settling = s.settling - k := by
  induction k with
  | zero => rfl
  | succ k ih => rw [Function.iterate_succ_apply', afterStep_settling, ih, Nat.sub_sub]

/-- R244: the last of the steps that cover the window finds at most one unit of it left. -/
theorem outputsAreAlu_iterate_afterStep {k : Nat} {s : State} (positive : 0 < k) (covers : s.settling ≤ k) :
    OutputsAreAlu (afterStep^[k] s) := by
  obtain ⟨before, rfl⟩ := Nat.exists_eq_succ_of_ne_zero positive.ne'
  rw [Function.iterate_succ_apply']
  refine outputsAreAlu_afterStep ?_
  rw [iterate_afterStep_settling]
  omega

/-! ## A placed control word -/

/-- Log 14: a row's word is put on the control port whole. -/
theorem withFetchWord_encode (s : State) (nbits : Nat) (i : Instr) :
    s.withFetchWord nbits (encode i).toNat = s.presentSettledControl (encode i) := by
  rw [State.withFetchWord, BitVec.ofNat_toNat, BitVec.setWidth_eq]

/-! ## The obligations -/

/-- Settles O36: at the end of the run the inputs are the same, the window is closed and the outputs are settled. -/
theorem stableInputsSettle : Obligations.StableInputsSettle := by
  unfold Obligations.StableInputsSettle
  intro s k positive covers
  have inputs := sameInputs_iterate_afterStep k s
  have settled := outputsAreAlu_iterate_afterStep positive covers
  exact ⟨afterStep^[k] s, run_eq_next k s, inputs,
    (iterate_afterStep_settling k s).trans (Nat.sub_eq_zero_of_le covers), settled.trans inputs.alu_eq.symm,
    settled.flags⟩

/-- Settles O17: every decoded word shows the ALU function, and every run is a run of next states. -/
theorem noControlWordStops : Obligations.NoControlWordStops := by
  unfold Obligations.NoControlWordStops
  exact ⟨fun c s => ⟨_, exec_decode_eq_alu c s, rfl⟩, fun s k => ⟨_, run_eq_next k s⟩⟩

/-- Settles O18: an instruction shows a result of x and y, a settled step the ALU function, and no instruction reads an
output port. -/
theorem settledOutputsDependOnInputsOnly : Obligations.SettledOutputsDependOnInputsOnly := by
  unfold Obligations.SettledOutputsDependOnInputsOnly
  refine ⟨fun i s t x y => ?_, fun s t same s_closes t_closes => ?_, fun i s => ?_⟩
  · refine ⟨_, _, exec_eq_next i s, exec_eq_next i t, ?_⟩
    rw [x, y]
    exact ⟨rfl, rfl, rfl⟩
  · refine ⟨_, _, step_eq_next s, step_eq_next t, ?_⟩
    have inputs : SameInputs (afterStep s) (afterStep t) :=
      (sameInputs_afterStep s).symm.trans (same.trans (sameInputs_afterStep t))
    exact (outputsAreAlu_afterStep s_closes).outputs_eq (outputsAreAlu_afterStep t_closes) inputs
  · exact ⟨_, exec_eq_next i s, exec_eq_next i _⟩

/-- Settles O34: a placed word stands on the port with the window closed, so the next step ends settled. -/
theorem placedControlWordRunsNext : Obligations.PlacedControlWordRunsNext := by
  unfold Obligations.PlacedControlWordRunsNext
  intro i s nbits
  rw [withFetchWord_encode]
  have settled : OutputsAreAlu (afterStep (s.presentSettledControl (encode i))) :=
    outputsAreAlu_afterStep (Nat.zero_le 1)
  have inputs := sameInputs_afterStep (s.presentSettledControl (encode i))
  have shown := settled.trans inputs.alu_eq.symm
  obtain ⟨x, y, control⟩ := inputs
  exact ⟨decodeTableWord_encode nbits i, _, step_eq_next _, control.symm, x.symm, y.symm, shown⟩

/-- Settles O33: the word on the port decodes to the instruction, and passing time is one update of each field. -/
theorem stepRunsTheDecodedInstruction : Obligations.StepRunsTheDecodedInstruction := by
  unfold Obligations.StepRunsTheDecodedInstruction
  intro i s control _ closes
  have window := Nat.sub_eq_zero_of_le closes
  have runs : step s = exec i s.passTime := by
    rw [step, if_pos window, State.fetch, control, decode_encode]
  exact ⟨runs, ⟨rfl, rfl, rfl⟩, window, rfl, rfl, rfl, rfl, rfl, rfl, rfl, rfl, rfl⟩

/-- Settles O35: the step glitches. -/
theorem windowStepsCountDown : Obligations.WindowStepsCountDown := by
  unfold Obligations.WindowStepsCountDown
  exact fun s stays_open => ⟨_, step_eq_next s, sameInputs_afterStep s, afterStep_settling s,
    outputsAreDraws_afterStep stays_open, afterStep_ticks s⟩

end Sys2Proof
end

section
/-!
PROOFS. The sub-blocks in time, and coherence (70_reset_and_hazards.md R241, R244): what one unit of time does at each
stand-alone sub-block, and that every step and every change of inputs keeps each block's window and outputs together.
-/

namespace Sys2Proof

open Sys2Proof.Machine

/-! ## One unit of time at each sub-block -/

/-- R80: the Zeroer keeps its inputs, and shows its function or a free value. -/
theorem tickZeroer_effect (n : Nat) (p : ZeroerPorts) :
    (tickZeroer n p).enable = p.enable ∧ (tickZeroer n p).input = p.input ∧
    (tickZeroer n p).settling = p.settling - 1 ∧
    (p.settling ≤ 1 → (tickZeroer n p).output = if p.enable then 0x0000#16 else p.input) ∧
    (1 < p.settling → (tickZeroer n p).output = Config.unsettledWord .zeroerOutput n) := by
  by_cases closes : p.settling - 1 = 0
  · rw [tickZeroer_settled n closes]
    exact ⟨rfl, rfl, closes.symm, fun _ => rfl, by omega⟩
  · rw [tickZeroer_unsettled n closes]
    exact ⟨rfl, rfl, rfl, by omega, fun _ => rfl⟩

/-- R83: the same for the Inverter. -/
theorem tickInverter_effect (n : Nat) (p : InverterPorts) :
    (tickInverter n p).enable = p.enable ∧ (tickInverter n p).input = p.input ∧
    (tickInverter n p).settling = p.settling - 1 ∧
    (p.settling ≤ 1 → (tickInverter n p).output = if p.enable then ~~~p.input else p.input) ∧
    (1 < p.settling → (tickInverter n p).output = Config.unsettledWord .inverterOutput n) := by
  by_cases closes : p.settling - 1 = 0
  · rw [tickInverter_settled n closes]
    exact ⟨rfl, rfl, closes.symm, fun _ => rfl, by omega⟩
  · rw [tickInverter_unsettled n closes]
    exact ⟨rfl, rfl, rfl, by omega, fun _ => rfl⟩

/-- R87: the same for the Adder. -/
theorem tickAdder_effect (n : Nat) (p : AdderPorts) :
    (tickAdder n p).a = p.a ∧ (tickAdder n p).b = p.b ∧ (tickAdder n p).settling = p.settling - 1 ∧
    (p.settling ≤ 1 → (tickAdder n p).sum = p.a + p.b) ∧
    (1 < p.settling → (tickAdder n p).sum = Config.unsettledWord .adderSum n) := by
  by_cases closes : p.settling - 1 = 0
  · rw [tickAdder_settled n closes]
    exact ⟨rfl, rfl, closes.symm, fun _ => adder_eq_add p.a p.b, by omega⟩
  · rw [tickAdder_unsettled n closes]
    exact ⟨rfl, rfl, rfl, by omega, fun _ => rfl⟩

/-- R93: the same for the Incrementer. -/
theorem tickIncrementer_effect (n : Nat) (p : IncrementerPorts) :
    (tickIncrementer n p).a = p.a ∧ (tickIncrementer n p).settling = p.settling - 1 ∧
    (p.settling ≤ 1 → (tickIncrementer n p).output = p.a + 1#16) ∧
    (1 < p.settling → (tickIncrementer n p).output = Config.unsettledWord .incrementerOutput n) := by
  by_cases closes : p.settling - 1 = 0
  · rw [tickIncrementer_settled n closes]
    exact ⟨rfl, closes.symm, fun _ => incrementer_eq_add_one p.a, by omega⟩
  · rw [tickIncrementer_unsettled n closes]
    exact ⟨rfl, rfl, by omega, fun _ => rfl⟩

/-- R97: the same for the Comparator and its two outputs. -/
theorem tickComparator_effect (n : Nat) (p : ComparatorPorts) :
    (tickComparator n p).a = p.a ∧ (tickComparator n p).settling = p.settling - 1 ∧
    (p.settling ≤ 1 →
      (tickComparator n p).zero = decide (p.a = 0x0000#16) ∧ (tickComparator n p).negative = p.a.getLsbD 15) ∧
    (1 < p.settling → (tickComparator n p).zero = Config.unsettledBit .comparatorZero n ∧
      (tickComparator n p).negative = Config.unsettledBit .comparatorNegative n) := by
  by_cases closes : p.settling - 1 = 0
  · rw [tickComparator_settled n closes]
    exact ⟨rfl, closes.symm, fun _ => ⟨comparator_zero p.a, comparator_negative p.a⟩, by omega⟩
  · rw [tickComparator_unsettled n closes]
    exact ⟨rfl, rfl, by omega, fun _ => ⟨rfl, rfl⟩⟩

/-! ## Coherence, one block at a time -/

/-- R241, R244: a block with `left` units of its window left is coherent, `shown` saying that its outputs are its function
of its inputs. -/
def CoherentWindow (left : Nat) (shown : Prop) : Prop := left ≤ Config.tPd ∧ (left = 0 → shown)

theorem tPd_pos : 0 < Config.tPd := Nat.succ_pos Config.tPdPred

/-- R244: a window opened for its whole length is still open. -/
theorem coherentWindow_opened (shown : Prop) : CoherentWindow Config.tPd shown :=
  ⟨Nat.le_refl _, fun closed => absurd closed tPd_pos.ne'⟩

/-- R241: a window stays coherent over a unit of time at whose end the block shows its function, if at most one unit was
left. -/
theorem CoherentWindow.tick {left left' : Nat} {shown shown' : Prop} (before : CoherentWindow left shown)
    (counts : left' = left - 1) (settles : left ≤ 1 → shown') : CoherentWindow left' shown' := by
  obtain ⟨bound, -⟩ := before
  exact ⟨by omega, fun closed => settles (by omega)⟩

/-! The clause of each sub-block. -/

/-- R80 under R241. -/
def ZeroerCoherent (p : ZeroerPorts) : Prop :=
  CoherentWindow p.settling (p.output = if p.enable then 0x0000#16 else p.input)

/-- R83 under R241. -/
def InverterCoherent (p : InverterPorts) : Prop :=
  CoherentWindow p.settling (p.output = if p.enable then ~~~p.input else p.input)

/-- R87 under R241. -/
def AdderCoherent (p : AdderPorts) : Prop :=
  CoherentWindow p.settling (p.sum = p.a + p.b)

/-- R93 under R241. -/
def IncrementerCoherent (p : IncrementerPorts) : Prop :=
  CoherentWindow p.settling (p.output = p.a + 1#16)

/-- R97 under R241. -/
def ComparatorCoherent (p : ComparatorPorts) : Prop :=
  CoherentWindow p.settling (p.zero = decide (p.a = 0x0000#16) ∧ p.negative = p.a.getLsbD 15)

theorem aluCoherent_iff (s : State) : AluCoherent s ↔ CoherentWindow s.settling (OutputsAreAlu s) := Iff.rfl

theorem blocksCoherent_iff (s : State) :
    BlocksCoherent s ↔ ZeroerCoherent s.zeroerBlock ∧ InverterCoherent s.inverterBlock ∧ AdderCoherent s.adderBlock ∧
      IncrementerCoherent s.incrementerBlock ∧ ComparatorCoherent s.comparatorBlock := Iff.rfl

/-! Over a unit of time a block keeps its inputs, so its function of them is the same before and after. -/

theorem ZeroerCoherent.tick (n : Nat) {p : ZeroerPorts} (before : ZeroerCoherent p) :
    ZeroerCoherent (tickZeroer n p) := by
  obtain ⟨enable, input, counts, settles, -⟩ := tickZeroer_effect n p
  rw [ZeroerCoherent, enable, input]
  exact CoherentWindow.tick before counts settles

theorem InverterCoherent.tick (n : Nat) {p : InverterPorts} (before : InverterCoherent p) :
    InverterCoherent (tickInverter n p) := by
  obtain ⟨enable, input, counts, settles, -⟩ := tickInverter_effect n p
  rw [InverterCoherent, enable, input]
  exact CoherentWindow.tick before counts settles

theorem AdderCoherent.tick (n : Nat) {p : AdderPorts} (before : AdderCoherent p) :
    AdderCoherent (tickAdder n p) := by
  obtain ⟨a, b, counts, settles, -⟩ := tickAdder_effect n p
  rw [AdderCoherent, a, b]
  exact CoherentWindow.tick before counts settles

theorem IncrementerCoherent.tick (n : Nat) {p : IncrementerPorts} (before : IncrementerCoherent p) :
    IncrementerCoherent (tickIncrementer n p) := by
  obtain ⟨a, counts, settles, -⟩ := tickIncrementer_effect n p
  rw [IncrementerCoherent, a]
  exact CoherentWindow.tick before counts settles

theorem ComparatorCoherent.tick (n : Nat) {p : ComparatorPorts} (before : ComparatorCoherent p) :
    ComparatorCoherent (tickComparator n p) := by
  obtain ⟨a, counts, settles, -⟩ := tickComparator_effect n p
  rw [ComparatorCoherent, a]
  exact CoherentWindow.tick before counts settles

/-! ## Coherence over a step -/

theorem aluCoherent_afterStep {s : State} (before : AluCoherent s) : AluCoherent (afterStep s) :=
  ((aluCoherent_iff s).mp before).tick (afterStep_settling s) outputsAreAlu_afterStep

theorem blocksCoherent_passTime {s : State} (before : BlocksCoherent s) : BlocksCoherent s.passTime := by
  obtain ⟨zeroer, inverter, adder, incrementer, comparator⟩ := (blocksCoherent_iff s).mp before
  exact ⟨zeroer.tick s.ticks, inverter.tick s.ticks, adder.tick s.ticks, incrementer.tick s.ticks,
    comparator.tick s.ticks⟩

/-- Coherence of the sub-blocks is a matter of the sub-blocks only. -/
theorem BlocksCoherent.congr {s t : State} (before : BlocksCoherent s) (same : SameBlocks s t) : BlocksCoherent t := by
  obtain ⟨zeroer_same, inverter_same, adder_same, incrementer_same, comparator_same⟩ := same
  rw [BlocksCoherent, zeroer_same, inverter_same, adder_same, incrementer_same, comparator_same] at before
  exact before

theorem coherent_afterStep {s : State} (before : Coherent s) : Coherent (afterStep s) := by
  obtain ⟨alu_before, blocks_before⟩ := before
  exact ⟨aluCoherent_afterStep alu_before, (blocksCoherent_passTime blocks_before).congr (sameBlocks_afterStep s)⟩

/-! ## Coherence over a change of inputs -/

theorem coherent_presentAlu {s : State} (x y : Word) (c : Control) (before : Coherent s) :
    Coherent (s.presentAlu x y c) := by
  obtain ⟨-, same⟩ | ⟨-, changed⟩ := s.presentAlu_cases x y c
  · rwa [same]
  · obtain ⟨-, blocks⟩ := before
    rw [changed]
    exact ⟨coherentWindow_opened _, blocks⟩

theorem coherent_presentZeroer {s : State} (e : Bool) (v : Word) (before : Coherent s) :
    Coherent (s.presentZeroer e v) := by
  obtain ⟨-, same⟩ | ⟨-, changed⟩ := s.presentZeroer_cases e v
  · rwa [same]
  · obtain ⟨alu, -, others⟩ := before
    rw [changed]
    exact ⟨alu, coherentWindow_opened _, others⟩

theorem coherent_presentInverter {s : State} (e : Bool) (v : Word) (before : Coherent s) :
    Coherent (s.presentInverter e v) := by
  obtain ⟨-, same⟩ | ⟨-, changed⟩ := s.presentInverter_cases e v
  · rwa [same]
  · obtain ⟨alu, zeroer, -, others⟩ := before
    rw [changed]
    exact ⟨alu, zeroer, coherentWindow_opened _, others⟩

theorem coherent_presentAdder {s : State} (a b : Word) (before : Coherent s) : Coherent (s.presentAdder a b) := by
  obtain ⟨-, same⟩ | ⟨-, changed⟩ := s.presentAdder_cases a b
  · rwa [same]
  · obtain ⟨alu, zeroer, inverter, -, others⟩ := before
    rw [changed]
    exact ⟨alu, zeroer, inverter, coherentWindow_opened _, others⟩

theorem coherent_presentIncrementer {s : State} (a : Word) (before : Coherent s) :
    Coherent (s.presentIncrementer a) := by
  obtain ⟨-, same⟩ | ⟨-, changed⟩ := s.presentIncrementer_cases a
  · rwa [same]
  · obtain ⟨alu, zeroer, inverter, adder, -, comparator⟩ := before
    rw [changed]
    exact ⟨alu, zeroer, inverter, adder, coherentWindow_opened _, comparator⟩

theorem coherent_presentComparator {s : State} (a : Word) (before : Coherent s) :
    Coherent (s.presentComparator a) := by
  obtain ⟨-, same⟩ | ⟨-, changed⟩ := s.presentComparator_cases a
  · rwa [same]
  · obtain ⟨alu, zeroer, inverter, adder, incrementer, -⟩ := before
    rw [changed]
    exact ⟨alu, zeroer, inverter, adder, incrementer, coherentWindow_opened _⟩

/-! ## The obligations -/

/-- Settles O47: each block's window counts down, and the unit that closes it ends with the block's function. -/
theorem stepKeepsCoherence : Obligations.StepKeepsCoherence := by
  unfold Obligations.StepKeepsCoherence
  intro s t before answers
  have ended : afterStep s = t := Host.Outcome.next.inj ((step_eq_next s).symm.trans answers)
  exact ended ▸ coherent_afterStep before

/-- Settles O43: each sub-block passes the unit of time by itself. -/
theorem subBlocksSettle : Obligations.SubBlocksSettle := by
  unfold Obligations.SubBlocksSettle
  intro s
  obtain ⟨zeroer_same, inverter_same, adder_same, incrementer_same, comparator_same⟩ := sameBlocks_afterStep s
  refine ⟨_, step_eq_next s, afterStep_ticks s, ?_⟩
  rw [← zeroer_same, ← inverter_same, ← adder_same, ← incrementer_same, ← comparator_same]
  exact ⟨tickZeroer_effect s.ticks s.zeroerBlock, tickInverter_effect s.ticks s.inverterBlock,
    tickAdder_effect s.ticks s.adderBlock, tickIncrementer_effect s.ticks s.incrementerBlock,
    tickComparator_effect s.ticks s.comparatorBlock⟩

/-- Settles O48: presenting opens the whole window of one block, or changes nothing. -/
theorem presentingKeepsCoherence : Obligations.PresentingKeepsCoherence := by
  unfold Obligations.PresentingKeepsCoherence
  exact fun s x y v a b c e before => ⟨coherent_presentAlu x y c before, coherent_presentZeroer e v before,
    coherent_presentInverter e v before, coherent_presentAdder a b before, coherent_presentIncrementer a before,
    coherent_presentComparator a before⟩

/-- Settles O45: power-up opens every window for the whole of `T_pd` and draws every output. -/
theorem powerUpIsUnsettled : Obligations.PowerUpIsUnsettled := by
  unfold Obligations.PowerUpIsUnsettled
  exact ⟨tPd_pos, rfl, rfl, rfl, rfl, rfl, rfl, ⟨rfl, rfl, rfl⟩, rfl, rfl, rfl, rfl, rfl, rfl⟩

/-- Settles O46: every window is open. -/
theorem powerUpIsCoherent : Obligations.PowerUpIsCoherent := by
  unfold Obligations.PowerUpIsCoherent
  exact ⟨coherentWindow_opened _, coherentWindow_opened _, coherentWindow_opened _, coherentWindow_opened _,
    coherentWindow_opened _, coherentWindow_opened _⟩

end Sys2Proof
end

section
/-!
PROOFS. What the driver presents (70_reset_and_hazards.md R243, R244; 60_exceptions.md R221): a change opens the window of
the one block it is presented to and of no other, and inputs held for `T_pd` are evaluated.
-/

namespace Sys2Proof

open Sys2Proof.Machine

/-! ## Presenting at the ALU -/

theorem presentAlu_same (s : State) : s.presentAlu s.x s.y s.control = s := if_pos ⟨rfl, rfl, rfl⟩

/-- Presented levels are on the ports, whether or not they are new. -/
theorem presentAlu_inputs (s : State) (x y : Word) (c : Control) :
    (s.presentAlu x y c).x = x ∧ (s.presentAlu x y c).y = y ∧ (s.presentAlu x y c).control = c := by
  obtain ⟨⟨rfl, rfl, rfl⟩, same⟩ | ⟨-, changed⟩ := s.presentAlu_cases x y c
  · rw [same]
    exact ⟨rfl, rfl, rfl⟩
  · rw [changed]
    exact ⟨rfl, rfl, rfl⟩

theorem presentAlu_settling_le {s : State} (x y : Word) (c : Control) (bound : s.settling ≤ Config.tPd) :
    (s.presentAlu x y c).settling ≤ Config.tPd := by
  obtain ⟨-, same⟩ | ⟨-, changed⟩ := s.presentAlu_cases x y c
  · rwa [same]
  · rw [changed]

theorem sameBlocks_presentAlu (s : State) (x y : Word) (c : Control) : SameBlocks s (s.presentAlu x y c) := by
  obtain ⟨-, same⟩ | ⟨-, changed⟩ := s.presentAlu_cases x y c
  · rw [same]
    exact ⟨rfl, rfl, rfl, rfl, rfl⟩
  · rw [changed]
    exact ⟨rfl, rfl, rfl, rfl, rfl⟩

/-! ## What presenting at a sub-block leaves alone -/

/-- The ALU's ports and window are the same in both states. -/
def SameAlu (s t : State) : Prop :=
  SameInputs s t ∧ t.settling = s.settling ∧ t.result = s.result ∧ t.zero = s.zero ∧ t.negative = s.negative

theorem SameAlu.refl (s : State) : SameAlu s s := ⟨.refl s, rfl, rfl, rfl, rfl⟩

theorem presentZeroer_frame (s : State) (e : Bool) (v : Word) :
    let t := s.presentZeroer e v
    SameAlu s t ∧ t.inverterBlock = s.inverterBlock ∧ t.adderBlock = s.adderBlock ∧
      t.incrementerBlock = s.incrementerBlock ∧ t.comparatorBlock = s.comparatorBlock := by
  obtain ⟨-, same⟩ | ⟨-, changed⟩ := s.presentZeroer_cases e v
  · rw [same]
    exact ⟨.refl s, rfl, rfl, rfl, rfl⟩
  · rw [changed]
    exact ⟨.refl s, rfl, rfl, rfl, rfl⟩

theorem presentInverter_frame (s : State) (e : Bool) (v : Word) :
    let t := s.presentInverter e v
    SameAlu s t ∧ t.zeroerBlock = s.zeroerBlock ∧ t.adderBlock = s.adderBlock ∧
      t.incrementerBlock = s.incrementerBlock ∧ t.comparatorBlock = s.comparatorBlock := by
  obtain ⟨-, same⟩ | ⟨-, changed⟩ := s.presentInverter_cases e v
  · rw [same]
    exact ⟨.refl s, rfl, rfl, rfl, rfl⟩
  · rw [changed]
    exact ⟨.refl s, rfl, rfl, rfl, rfl⟩

theorem presentAdder_frame (s : State) (a b : Word) :
    let t := s.presentAdder a b
    SameAlu s t ∧ t.zeroerBlock = s.zeroerBlock ∧ t.inverterBlock = s.inverterBlock ∧
      t.incrementerBlock = s.incrementerBlock ∧ t.comparatorBlock = s.comparatorBlock := by
  obtain ⟨-, same⟩ | ⟨-, changed⟩ := s.presentAdder_cases a b
  · rw [same]
    exact ⟨.refl s, rfl, rfl, rfl, rfl⟩
  · rw [changed]
    exact ⟨.refl s, rfl, rfl, rfl, rfl⟩

theorem presentIncrementer_frame (s : State) (a : Word) :
    let t := s.presentIncrementer a
    SameAlu s t ∧ t.zeroerBlock = s.zeroerBlock ∧ t.inverterBlock = s.inverterBlock ∧
      t.adderBlock = s.adderBlock ∧ t.comparatorBlock = s.comparatorBlock := by
  obtain ⟨-, same⟩ | ⟨-, changed⟩ := s.presentIncrementer_cases a
  · rw [same]
    exact ⟨.refl s, rfl, rfl, rfl, rfl⟩
  · rw [changed]
    exact ⟨.refl s, rfl, rfl, rfl, rfl⟩

theorem presentComparator_frame (s : State) (a : Word) :
    let t := s.presentComparator a
    SameAlu s t ∧ t.zeroerBlock = s.zeroerBlock ∧ t.inverterBlock = s.inverterBlock ∧
      t.adderBlock = s.adderBlock ∧ t.incrementerBlock = s.incrementerBlock := by
  obtain ⟨-, same⟩ | ⟨-, changed⟩ := s.presentComparator_cases a
  · rw [same]
    exact ⟨.refl s, rfl, rfl, rfl, rfl⟩
  · rw [changed]
    exact ⟨.refl s, rfl, rfl, rfl, rfl⟩

/-- R221: what the sub-blocks hold has no effect on a step that ends settled. -/
theorem afterStep_outputs_eq {s t : State} (same : SameAlu s t) (closes : s.settling ≤ 1) :
    (afterStep s).result = (afterStep t).result ∧ (afterStep s).zero = (afterStep t).zero ∧
      (afterStep s).negative = (afterStep t).negative ∧ (afterStep s).settling = (afterStep t).settling := by
  obtain ⟨inputs, window, -⟩ := same
  have kept : SameInputs (afterStep s) (afterStep t) :=
    (sameInputs_afterStep s).symm.trans (inputs.trans (sameInputs_afterStep t))
  obtain ⟨result, zero, negative⟩ :=
    (outputsAreAlu_afterStep closes).outputs_eq (outputsAreAlu_afterStep (window ▸ closes)) kept
  exact ⟨result, zero, negative, by rw [afterStep_settling, afterStep_settling, window]⟩

/-! ## The obligations -/

/-- Settles O37: the presented levels are on the ports, and `T_pd` steps cover the window. -/
theorem presentedInputsAreEvaluated : Obligations.PresentedInputsAreEvaluated := by
  unfold Obligations.PresentedInputsAreEvaluated
  intro s x y c bound
  have inputs := sameInputs_iterate_afterStep Config.tPd (s.presentAlu x y c)
  have settled := outputsAreAlu_iterate_afterStep tPd_pos (presentAlu_settling_le x y c bound)
  have shown := settled.trans inputs.alu_eq.symm
  obtain ⟨presented_x, presented_y, presented_control⟩ := presentAlu_inputs s x y c
  obtain ⟨kept_x, kept_y, kept_control⟩ := inputs
  rw [presented_x, presented_y, presented_control] at shown
  exact ⟨_, run_eq_next _ _, kept_x.symm.trans presented_x, kept_y.symm.trans presented_y,
    kept_control.symm.trans presented_control, shown⟩

/-- Settles O44: each operation is one update of its own block's fields. -/
theorem blocksAreIndependent : Obligations.BlocksAreIndependent := by
  unfold Obligations.BlocksAreIndependent
  refine ⟨fun i s => ⟨_, exec_eq_next i s, rfl, rfl, rfl, rfl, rfl⟩, sameBlocks_presentAlu, fun s e v a b => ?_,
    fun s e v => (presentZeroer_frame s e v).2, fun s e v => (presentInverter_frame s e v).2,
    fun s a b => (presentAdder_frame s a b).2, fun s a => (presentIncrementer_frame s a).2,
    fun s a => (presentComparator_frame s a).2, fun s z v a n c closes => ?_⟩
  · simp only [List.forall_mem_cons, List.not_mem_nil, IsEmpty.forall_iff, implies_true, and_true]
    exact ⟨(presentZeroer_frame s e v).1, (presentInverter_frame s e v).1, (presentAdder_frame s a b).1,
      (presentIncrementer_frame s a).1, (presentComparator_frame s a).1⟩
  · exact ⟨_, _, step_eq_next s, step_eq_next _, afterStep_outputs_eq (.refl s) closes⟩

/-- Settles O38: by whether the levels are new. -/
theorem presentingOpensTheWindow : Obligations.PresentingOpensTheWindow := by
  unfold Obligations.PresentingOpensTheWindow
  refine ⟨fun s x y c differs => ?_, presentAlu_same⟩
  obtain ⟨same, -⟩ | ⟨-, changed⟩ := s.presentAlu_cases x y c
  · exact absurd same differs
  · rw [changed]
    exact ⟨rfl, rfl, rfl, rfl, ⟨rfl, rfl, rfl, rfl, rfl⟩, ⟨rfl, rfl, rfl⟩, rfl⟩

/-- Settles O42: by whether the levels are new, block by block. -/
theorem presentingOpensTheBlocksWindows : Obligations.PresentingOpensTheBlocksWindows := by
  unfold Obligations.PresentingOpensTheBlocksWindows
  intro s e v a b
  refine ⟨fun differs => ?zeroer, fun differs => ?inverter, fun differs => ?adder, fun differs => ?incrementer,
    fun differs => ?comparator, if_pos ⟨rfl, rfl⟩, if_pos ⟨rfl, rfl⟩, if_pos ⟨rfl, rfl⟩, if_pos rfl, if_pos rfl⟩
  case zeroer =>
    obtain ⟨same, -⟩ | ⟨-, changed⟩ := s.presentZeroer_cases e v
    · exact absurd same differs
    · rw [changed]
      exact ⟨rfl, rfl, rfl, rfl, rfl⟩
  case inverter =>
    obtain ⟨same, -⟩ | ⟨-, changed⟩ := s.presentInverter_cases e v
    · exact absurd same differs
    · rw [changed]
      exact ⟨rfl, rfl, rfl, rfl, rfl⟩
  case adder =>
    obtain ⟨same, -⟩ | ⟨-, changed⟩ := s.presentAdder_cases a b
    · exact absurd same differs
    · rw [changed]
      exact ⟨rfl, rfl, rfl, rfl, rfl⟩
  case incrementer =>
    obtain ⟨same, -⟩ | ⟨-, changed⟩ := s.presentIncrementer_cases a
    · exact absurd same differs
    · rw [changed]
      exact ⟨rfl, rfl, rfl, rfl⟩
  case comparator =>
    obtain ⟨same, -⟩ | ⟨-, changed⟩ := s.presentComparator_cases a
    · exact absurd same differs
    · rw [changed]
      exact ⟨rfl, rfl, rfl, rfl, rfl⟩

end Sys2Proof
end

section
/-!
PROOFS. Levels on ports (10_state.md R31, 00_scope.md R9, 60_exceptions.md R212): a port reads exactly the levels of a word,
and a presentation is taken when every port is well formed and refused by name otherwise.
-/

namespace Sys2Proof

open Sys2Proof.Machine

/-! ## The levels of a number -/

/-- R9, R14: the low `w` bits of `n` as levels, bit 0 first. -/
def natLevels (w n : Nat) : List Level := (List.range w).map fun i => if n.testBit i then .high else .low

theorem wordLevels_eq_natLevels {w : Nat} (v : BitVec w) : wordLevels v = natLevels w v.toNat := rfl

theorem natLevels_length (w n : Nat) : (natLevels w n).length = w := by
  rw [natLevels, List.length_map, List.length_range]

theorem natLevels_succ (w n : Nat) :
    natLevels (w + 1) n = (if n.testBit 0 then .high else .low) :: natLevels w (n / 2) := by
  simp only [natLevels, List.range_succ_eq_map, List.map_cons, List.map_map, Function.comp_def, Nat.testBit_succ]

theorem levelBit_eq_some_iff (l : Level) (b : Bool) : levelBit l = some b ↔ l = if b then .high else .low := by
  cases l <;> cases b <;> simp [levelBit]

/-- R9: the sum of `v[i] * 2^i`, taken apart at bit 0. -/
theorem levelsValue_cons_eq_some_iff (l : Level) (rest : List Level) (n : Nat) :
    levelsValue (l :: rest) = some n ↔ levelBit l = some (n.testBit 0) ∧ levelsValue rest = some (n / 2) := by
  rw [levelsValue]
  cases levelBit l with
  | none => simp
  | some b =>
    cases levelsValue rest with
    | none => simp
    | some m =>
      simp only [Option.some.injEq, Nat.testBit_zero]
      cases b <;> simp <;> omega

/-- R9: levels have the value `n` exactly when they are the bits of `n` and `n` has no more bits than there are wires. -/
theorem levelsValue_eq_some_iff (levels : List Level) (n : Nat) :
    levelsValue levels = some n ↔ n < 2 ^ levels.length ∧ levels = natLevels levels.length n := by
  induction levels generalizing n with
  | nil =>
    rw [levelsValue, Option.some.injEq, List.length_nil, pow_zero, Nat.lt_one_iff]
    exact ⟨fun zero => ⟨zero.symm, rfl⟩, fun ⟨zero, _⟩ => zero.symm⟩
  | cons l rest ih =>
    have halved : n / 2 < 2 ^ rest.length ↔ n < 2 ^ (rest.length + 1) := by
      rw [Nat.div_lt_iff_lt_mul Nat.two_pos, pow_succ]
    rw [levelsValue_cons_eq_some_iff, levelBit_eq_some_iff, ih, List.length_cons, natLevels_succ, List.cons.injEq,
      halved, and_left_comm]

/-- R31: levels have a value exactly when each of them is a logic level. -/
theorem levelsValue_isSome (levels : List Level) : (levelsValue levels).isSome = levels.all Level.isLogic := by
  induction levels with
  | nil => rfl
  | cons l rest ih =>
    rw [List.all_cons, ← ih, levelsValue]
    cases l <;> cases levelsValue rest <;> rfl

/-! ## Reading a port -/

theorem wordLevels_length {w : Nat} (v : BitVec w) : (wordLevels v).length = w := natLevels_length w v.toNat

theorem levelsValue_wordLevels {w : Nat} (v : BitVec w) : levelsValue (wordLevels v) = some v.toNat := by
  rw [levelsValue_eq_some_iff, wordLevels_length, wordLevels_eq_natLevels]
  exact ⟨v.isLt, rfl⟩

/-- R9: levels of the port's width with a value are the levels of the word with that value. -/
theorem eq_wordLevels_of_levelsValue {w n : Nat} {levels : List Level} (width : levels.length = w)
    (value : levelsValue levels = some n) : levels = wordLevels (BitVec.ofNat w n) := by
  obtain ⟨bound, bits⟩ := (levelsValue_eq_some_iff levels n).mp value
  rw [width] at bound bits
  rwa [wordLevels_eq_natLevels, BitVec.toNat_ofNat, Nat.mod_eq_of_lt bound]

theorem readPort_wordLevels {w : Nat} (v : BitVec w) : readPort w (wordLevels v) = .ok v := by
  rw [readPort, if_pos (wordLevels_length v), levelsValue_wordLevels]
  simp only [BitVec.ofNat_toNat, BitVec.setWidth_eq]

/-- R31, R212: a port is well formed exactly when its levels are those of a word. -/
theorem portWellFormed_iff (w : Nat) (levels : List Level) :
    portWellFormed w levels = true ↔ ∃ v : BitVec w, levels = wordLevels v := by
  rw [portWellFormed, Bool.and_eq_true, beq_iff_eq, ← levelsValue_isSome, Option.isSome_iff_exists]
  constructor
  · rintro ⟨width, n, value⟩
    exact ⟨BitVec.ofNat w n, eq_wordLevels_of_levelsValue width value⟩
  · rintro ⟨v, rfl⟩
    exact ⟨wordLevels_length v, v.toNat, levelsValue_wordLevels v⟩

theorem withPort_wordLevels {w : Nat} (v : BitVec w) (use : BitVec w → Host.Outcome State Fault Refusal) :
    withPort w (wordLevels v) use = use v := by
  rw [withPort, readPort_wordLevels]

/-- Log 9, log 10: the name under which an ill-formed port is refused; the width is looked at first. -/
def portRefusal (w : Nat) (levels : List Level) : Refusal :=
  if levels.length = w then .nonLogicLevel else .widthViolation

theorem readPort_illFormed {w : Nat} {levels : List Level} (illFormed : portWellFormed w levels = false) :
    readPort w levels = .error (portRefusal w levels) := by
  unfold readPort portRefusal
  by_cases width : levels.length = w
  · cases value : levelsValue levels with
    | none => rw [if_pos width, if_pos width]
    | some n =>
      have wellFormed := (portWellFormed_iff w levels).mpr ⟨_, eq_wordLevels_of_levelsValue width value⟩
      exact absurd (wellFormed.symm.trans illFormed) Bool.noConfusion
  · rw [if_neg width, if_neg width]

theorem withPort_illFormed {w : Nat} {levels : List Level} (illFormed : portWellFormed w levels = false)
    (use : BitVec w → Host.Outcome State Fault Refusal) :
    withPort w levels use = .refused (portRefusal w levels) := by
  rw [withPort, readPort_illFormed illFormed]

/-- A presentation is refused as `r` if its first port is, when ill formed, and what follows is, when it is well formed. -/
theorem withPort_refused {w : Nat} {levels : List Level} {use : BitVec w → Host.Outcome State Fault Refusal}
    {r : Refusal} (first : portWellFormed w levels = false → portRefusal w levels = r)
    (rest : portWellFormed w levels = true → ∀ v, use v = .refused r) : withPort w levels use = .refused r := by
  cases formed : portWellFormed w levels with
  | false => rw [withPort_illFormed formed, first formed]
  | true =>
    obtain ⟨v, rfl⟩ := (portWellFormed_iff w levels).mp formed
    rw [withPort_wordLevels, rest formed]

/-! ## Presentations that are checked -/

/-- R31, R212: the presentation is taken if well formed, and refused by one of two names if not. -/
def Checked (wellFormed : Bool) (outcome : Host.Outcome State Fault Refusal) : Prop :=
  (wellFormed = true ∧ ∃ t, outcome = .next t) ∨
  (wellFormed = false ∧ (outcome = .refused .nonLogicLevel ∨ outcome = .refused .widthViolation))

theorem checked_next (t : State) : Checked true (.next t) := .inl ⟨rfl, t, rfl⟩

theorem portRefusal_cases (w : Nat) (levels : List Level) :
    portRefusal w levels = .nonLogicLevel ∨ portRefusal w levels = .widthViolation := by
  unfold portRefusal
  split
  · exact .inl rfl
  · exact .inr rfl

/-- One port more: the presentation is well formed if the port is and what follows is. -/
theorem checked_withPort {w : Nat} {rest : Bool} {use : BitVec w → Host.Outcome State Fault Refusal}
    (levels : List Level) (checked : ∀ v, Checked rest (use v)) :
    Checked (portWellFormed w levels && rest) (withPort w levels use) := by
  cases formed : portWellFormed w levels with
  | false =>
    rw [withPort_illFormed formed, Bool.false_and]
    exact .inr ⟨rfl, (portRefusal_cases w levels).imp (congrArg _) (congrArg _)⟩
  | true =>
    obtain ⟨v, rfl⟩ := (portWellFormed_iff w levels).mp formed
    rw [withPort_wordLevels, Bool.true_and]
    exact checked v

theorem checked_onePort {w : Nat} (levels : List Level) (present : BitVec w → State) :
    Checked (portWellFormed w levels) (withPort w levels fun v => .next (present v)) := by
  rw [← Bool.and_true (portWellFormed w levels)]
  exact checked_withPort levels fun v => checked_next (present v)

theorem checked_twoPorts {w w' : Nat} (levels levels' : List Level) (present : BitVec w → BitVec w' → State) :
    Checked (portWellFormed w levels && portWellFormed w' levels')
      (withPort w levels fun v => withPort w' levels' fun v' => .next (present v v')) :=
  checked_withPort levels fun v => checked_onePort levels' (present v)

theorem Checked.taken_iff {wellFormed : Bool} {outcome : Host.Outcome State Fault Refusal}
    (checked : Checked wellFormed outcome) : wellFormed = true ↔ ∃ t, outcome = .next t := by
  obtain ⟨formed, taken⟩ | ⟨illFormed, rfl | rfl⟩ := checked
  · exact iff_of_true formed taken
  · simp [illFormed]
  · simp [illFormed]

theorem checked_drive (s : State) (p : Stimulus) : Checked p.wellFormed (s.drive p) := by
  rw [Stimulus.wellFormed, Bool.and_assoc]
  exact checked_withPort p.x fun x => checked_twoPorts p.y p.control fun y c => s.presentAlu x y c

/-! ## Which name a presentation at the ALU is refused under -/

/-- R31: with the right width, only a level can be wrong. -/
theorem portRefusal_of_width {w : Nat} {levels : List Level} (width : levels.length = w) :
    portRefusal w levels = .nonLogicLevel := if_pos width

/-- R212: with logic levels only, an ill-formed port has a wrong width. -/
theorem portRefusal_of_logic {w : Nat} {levels : List Level} (logic : ∀ l ∈ levels, l.isLogic = true)
    (illFormed : portWellFormed w levels = false) : portRefusal w levels = .widthViolation := by
  have levels_right : levels.all Level.isLogic = true := List.all_eq_true.mpr logic
  rw [portWellFormed, levels_right, Bool.and_true, beq_eq_false_iff_ne] at illFormed
  exact if_neg illFormed

theorem length_of_portWellFormed {w : Nat} {levels : List Level} (formed : portWellFormed w levels = true) :
    levels.length = w := by
  obtain ⟨v, rfl⟩ := (portWellFormed_iff w levels).mp formed
  exact wordLevels_length v

/-- A presentation is refused as `r` when some port is ill formed and every ill-formed port is refused as `r`. -/
theorem drive_refused {p : Stimulus} {r : Refusal} (s : State) (illFormed : p.wellFormed = false)
    (x : portWellFormed 16 p.x = false → portRefusal 16 p.x = r)
    (y : portWellFormed 16 p.y = false → portRefusal 16 p.y = r)
    (control : portWellFormed 6 p.control = false → portRefusal 6 p.control = r) :
    s.drive p = .refused r := by
  refine withPort_refused x fun x_formed _ => withPort_refused y fun y_formed _ => withPort_refused control ?_
  intro control_formed
  rw [Stimulus.wellFormed, x_formed, y_formed, control_formed] at illFormed
  cases illFormed

/-! ## The obligations -/

/-- Settles O39: the wires are the bits of the value, bit 0 first. -/
theorem portReadsLogicLevels : Obligations.PortReadsLogicLevels := by
  unfold Obligations.PortReadsLogicLevels
  intro w v levels
  constructor
  · intro read
    cases formed : portWellFormed w levels with
    | false =>
      rw [readPort_illFormed formed] at read
      cases read
    | true =>
      obtain ⟨v', rfl⟩ := (portWellFormed_iff w levels).mp formed
      rw [Except.ok.inj ((readPort_wordLevels v').symm.trans read)]
  · rintro rfl
    exact readPort_wordLevels v

/-- Settles O40: the three ports are checked one after the other, and the first ill-formed one names the refusal. -/
theorem presentedLevelsAreChecked : Obligations.PresentedLevelsAreChecked := by
  unfold Obligations.PresentedLevelsAreChecked
  refine ⟨fun s x y c => ?_, fun s p => (checked_drive s p).taken_iff, fun s p x y control illFormed => ?_,
    fun s p logic widths => ?_⟩
  · rw [State.drive, withPort_wordLevels, withPort_wordLevels, withPort_wordLevels]
  · exact drive_refused s illFormed (fun _ => portRefusal_of_width x) (fun _ => portRefusal_of_width y)
      fun _ => portRefusal_of_width control
  · have illFormed : p.wellFormed = false := by
      rw [Bool.eq_false_iff, Ne, Stimulus.wellFormed, Bool.and_eq_true, Bool.and_eq_true]
      rintro ⟨⟨x, y⟩, control⟩
      exact widths ⟨length_of_portWellFormed x, length_of_portWellFormed y, length_of_portWellFormed control⟩
    simp only [List.forall_mem_append] at logic
    obtain ⟨⟨x, y⟩, control⟩ := logic
    exact drive_refused s illFormed (portRefusal_of_logic x) (portRefusal_of_logic y) (portRefusal_of_logic control)

/-- Settles O41: each block has one port or two, checked in the same way. -/
theorem subBlockLevelsAreChecked : Obligations.SubBlockLevelsAreChecked := by
  unfold Obligations.SubBlockLevelsAreChecked
  refine ⟨fun s e v a b => ?_, fun s e v a b => ?_⟩
  · have bit : (BitVec.ofBool e).getLsbD 0 = e := by cases e <;> rfl
    simp only [State.driveZeroer, State.driveInverter, State.driveAdder, State.driveIncrementer, State.driveComparator,
      withPort_wordLevels, bit, and_true]
  · simp only [List.forall_mem_cons, List.not_mem_nil, IsEmpty.forall_iff, implies_true, and_true]
    exact ⟨checked_twoPorts e v fun e v => s.presentZeroer (e.getLsbD 0) v,
      checked_twoPorts e v fun e v => s.presentInverter (e.getLsbD 0) v, checked_twoPorts a b s.presentAdder,
      checked_onePort a s.presentIncrementer, checked_onePort a s.presentComparator⟩

end Sys2Proof
end
